-- ==== Sys2Proof/Word.lean ====
section
/-!
DEFINITION. The word types of the block: the byte its ports move, its 18-bit length registers, its 24-bit
marker window and the 16-bit selector word (spec/10_state.md R22, R33, R37 to R39; spec/30_encoding.md R78).
-/
namespace Sys2Proof

/-- One byte of a port, of the PixelBuffer or of a header register (R22, R25, R36). -/
abbrev Byte := BitVec 8

/-- payloadLength, cursor and drain index: LEN_W = 18 bits (R15). -/
abbrev Len := BitVec 18

/-- The MagicWindow register: three byte slots, the most recent in bits 7 to 0 (R33). -/
abbrev Window := BitVec 24

/-- The operation selector word SEL (R78). -/
abbrev Sel := BitVec 16

end Sys2Proof
end

