-- ==== Sys2Proof/Config.lean ====
section
/-!
DEFINITION. The build parameters of the block (spec/00_scope.md R8 to R14), the build that State.reset holds, and
the free values: what the spec leaves open and nothing in Lean can evaluate.
-/
namespace Sys2Proof

/-- The OversizedFrame policy P_OVERSIZE (R13): REJECT is encoded 0 and CAP 1. -/
inductive Oversize where
  | reject
  | cap
deriving DecidableEq, Repr

/-- The build parameters, one configuration record (R8 to R14, R46). No operation writes them. -/
structure Params where
  /-- PixelBuffer capacity in bytes (R8). -/
  P_C : Nat
  /-- Checksum constant (R9). -/
  P_K : Byte
  /-- First marker byte to arrive (R10). -/
  P_M0 : Byte
  /-- Second marker byte (R10). -/
  P_M1 : Byte
  /-- Last marker byte (R10). -/
  P_M2 : Byte
  /-- Number of settle ticks (R11). -/
  P_LATCH_TICKS : Nat
  /-- Clock cycles in one settle tick (R12). -/
  P_TICK_CYCLES : Nat
  /-- OversizedFrame policy (R13). -/
  P_OVERSIZE : Oversize
  /-- Stalled-transport timeout in cycles, 0 for none (R14). -/
  P_IDLE_TIMEOUT : Nat
deriving DecidableEq, Repr

/-- FREE VALUE: the marker bytes of the build in hand, P_Mi at i. The spec gives none (R10, N1); log 3. -/
opaque Config.markerByte : Nat → Byte

/-- FREE VALUE: one less than P_TICK_CYCLES of the build in hand. The spec gives none (R12, N3); log 3. -/
opaque Config.tickCyclesLessOne : Nat

/-- FREE VALUE: what the PixelBuffer holds at an index that nothing has written since power-on (R53, U10); log 5. -/
opaque Config.powerOnByte : Nat → Byte

/-- FREE VALUE: the level of rst in a cycle the feed does not give (R46); log 1. -/
opaque Config.freeRst : Nat → Bool

/-- FREE VALUE: the level of in_valid in a cycle the feed does not give (R46); log 1. -/
opaque Config.freeInValid : Nat → Bool

/-- FREE VALUE: the value of in_data in a cycle the feed does not give (R46, U15); log 1. -/
opaque Config.freeInData : Nat → Byte

/-- FREE VALUE: the level of out_ready in a cycle the feed does not give (R46); log 1. -/
opaque Config.freeOutReady : Nat → Bool

/-- The build that `State.reset` holds: the reference values and defaults of R8, R9, R11, R13 and R14 (log 4), and
free values for the two OPEN parameters that have no default (R10, R12; log 3). P_TICK_CYCLES is at least 1 (R12). -/
def Config.build : Params where
  P_C := 1500
  P_K := 0x56
  P_M0 := Config.markerByte 0
  P_M1 := Config.markerByte 1
  P_M2 := Config.markerByte 2
  P_LATCH_TICKS := 5
  P_TICK_CYCLES := Config.tickCyclesLessOne + 1
  P_OVERSIZE := .reject
  P_IDLE_TIMEOUT := 0

end Sys2Proof
end

