-- ==== Sys2Proof/Machine/State.lean ====
section
/-!
DEFINITION. The state of the block: its registers (spec/10_state.md R31 to R44), the PixelBuffer (R45), the build
parameters it was made with, the levels its environment drives, and the model's own record of what its ports did.
-/
namespace Sys2Proof.Machine

/-- ProtocolState (R31): SeekingMagic, ReadingHeader, ReadingPayload, Latching. -/
inductive ProtocolState where
  | sm
  | rh
  | rp
  | la
deriving DecidableEq, Repr

/-- The sub-phase of Latching (R32). -/
inductive LPhase where
  | drain
  | settle
deriving DecidableEq, Repr

/-- The error classes (R170): labels of the spec and of a model's trace that no port carries (R176). -/
inductive ErrorClass where
  | syncLoss
  | checksumMismatch
  | oversizedFrame
  | stalledTransport
deriving DecidableEq, Repr

/-- The levels on the input ports in one cycle: rst (R21), in_valid and in_data (R22), out_ready (R26). -/
structure PortIn where
  rst : Bool
  inValid : Bool
  inData : Byte
  outReady : Bool
deriving DecidableEq, Repr

/-- The PixelBuffer as its written bytes, by index: strictly rising indices, no byte for an index that nothing has
written since power-on (R50, R53; log 5). -/
abbrev Memory := List Host.Cell

/-- The state between two clock edges. -/
structure State where
  /-- ProtocolState, 2 bits (R31). -/
  state : ProtocolState
  /-- Sub-phase of Latching, 1 bit (R32). -/
  lphase : LPhase
  /-- MagicWindow, 24 bits, slot 0 the most recent byte in bits 7 to 0 (R33). -/
  mw : Window
  /-- Number of valid bytes in mw (R34). -/
  mw_cnt : BitVec 2
  /-- Number of header bytes received (R35). -/
  hdr_cnt : BitVec 2
  /-- hiByte (R36). -/
  hdr_hi : Byte
  /-- loByte (R36). -/
  hdr_lo : Byte
  /-- payloadLength (R37). -/
  plen : Len
  /-- Payload write cursor (R38). -/
  cursor : Len
  /-- Drain index (R39). -/
  didx : Len
  /-- LatchCounter, LT_W bits (R40, R15; log 7). -/
  latch_cnt : Nat
  /-- Prescaler of the settle timer, TC_W bits (R41, R15; log 7). -/
  tick_cnt : Nat
  /-- Stalled-transport counter, IT_W bits (R44, R15; log 7). -/
  idle_cnt : Nat
  /-- PixelBuffer (R45, R50). -/
  buf : Memory
  /-- The build parameters, which no operation writes (R46; log 2). -/
  cfg : Params
  /-- The port levels of this cycle and of those to come, as far as the environment has fixed them (R46; log 1). -/
  feed : List PortIn
  /-- The clock edges so far: the model's own counter (log 1). -/
  cycle : Nat
  /-- The inbound events (cycle, byte), newest first (R28; log 8). -/
  accepted : List (Nat × Byte)
  /-- The outbound events (cycle, byte), newest first (R28; log 8). -/
  emitted : List (Nat × Byte)
  /-- The error labels (cycle, class), newest first (R170; log 8). -/
  raised : List (Nat × ErrorClass)
deriving DecidableEq, Repr

/-- Why the machine stops. -/
inductive Fault where
  /-- A drain would emit the byte at an index at or above P_C, and the PixelBuffer has none there (R50, R52). Raised by
  DRAIN_EMIT and DRAIN_LAST; no run from reset reaches it (R43 INV7). Safe: the block's spec gives no byte there. -/
  | readOutsideBuffer
deriving DecidableEq, Repr

/-- Why a cycle has no meaning. -/
inductive Refusal where
  /-- The operation named is not modelled. No arm of exec answers so. Safe. -/
  | notModelled (mnemonic : String)
  /-- The parameters are ones that a build must refuse (R195): there is no such block. Raised by step. Safe. -/
  | illegalBuild
  /-- The selector word matches no row. Raised by step; R89 says it never happens. Safe. -/
  | noRow
deriving DecidableEq, Repr

/-- s_0 of a block built with `c` whose environment drives `feed` (R18, R190): every register at its reset value, the
PixelBuffer as power-on left it, nothing yet seen on the ports. -/
def State.boot (c : Params) (feed : List PortIn) : State where
  state := .sm
  lphase := .drain
  mw := 0x000000
  mw_cnt := 0
  hdr_cnt := 0
  hdr_hi := 0x00
  hdr_lo := 0x00
  plen := 0
  cursor := 0
  didx := 0
  latch_cnt := 0
  tick_cnt := 0
  idle_cnt := 0
  buf := []
  cfg := c
  feed := feed
  cycle := 0
  accepted := []
  emitted := []
  raised := []

/-- The machine right after reset: s_0 of the build in hand (R18, R190), its environment free in every cycle. -/
def State.reset : State := State.boot Config.build []

end Sys2Proof.Machine
end

