-- ==== Sys2Proof/Machine/Operands.lean ====
section
/-!
DEFINITION. What the operations read: the port levels of the cycle, the slots of the marker window, the header's
pixel count and length, the drain length, and the widths of the counters.
-/
namespace Sys2Proof.Machine

/-! ### Register encodings -/

/-- The encoding of ProtocolState (R31). -/
def ProtocolState.code : ProtocolState → BitVec 2
  | .sm => 0b00
  | .rh => 0b01
  | .rp => 0b10
  | .la => 0b11

/-- The ProtocolState of an encoding: all four are used (R31). -/
def ProtocolState.ofCode (b : BitVec 2) : ProtocolState :=
  if b = 0b00 then .sm else if b = 0b01 then .rh else if b = 0b10 then .rp else .la

/-- The encoding of lphase (R32). -/
def LPhase.code : LPhase → BitVec 1
  | .drain => 0
  | .settle => 1

/-- The lphase of an encoding (R32). -/
def LPhase.ofCode (b : BitVec 1) : LPhase := if b = 0 then .drain else .settle

/-- The code of an error class (R170). -/
def ErrorClass.code : ErrorClass → Nat
  | .syncLoss => 0
  | .checksumMismatch => 1
  | .oversizedFrame => 2
  | .stalledTransport => 3

/-- The encoding of P_OVERSIZE (R13). -/
def oversizeCode : Oversize → Nat
  | .reject => 0
  | .cap => 1

/-! ### Ports -/

/-- The port levels in the cycle that is `k` edges ahead: what the feed fixes, and free levels beyond it (R46; log 1). -/
def State.portAt (s : State) (k : Nat) : PortIn :=
  match s.feed[k]? with
  | some p => p
  | none =>
    ⟨Config.freeRst (s.cycle + k), Config.freeInValid (s.cycle + k), Config.freeInData (s.cycle + k),
      Config.freeOutReady (s.cycle + k)⟩

/-- The port levels in the current cycle. -/
def State.port (s : State) : PortIn := s.portAt 0

/-! ### The marker window -/

/-- Slot 0 of the window, the most recent byte: `mw[7:0]` (R33). -/
def slot0 (w : Window) : Byte := w.extractLsb' 0 8

/-- Slot 1 of the window: `mw[15:8]` (R33). -/
def slot1 (w : Window) : Byte := w.extractLsb' 8 8

/-- Slot 2 of the window, the oldest byte: `mw[23:16]` (R33). -/
def slot2 (w : Window) : Byte := w.extractLsb' 16 8

/-- The window after a byte is shifted in: `{mw[15:8], mw[7:0], b}` (R101). -/
def shiftWindow (w : Window) (b : Byte) : Window := slot1 w ++ slot0 w ++ b

/-- The number of valid bytes after one more: `min(mw_cnt + 1, 3)` (R34, R101). -/
def countByte (n : BitVec 2) : BitVec 2 := BitVec.ofNat 2 (min (n.toNat + 1) 3)

/-- The marker in arrival order, `{P_M0, P_M1, P_M2}` (R56). -/
def marker (c : Params) : Window := c.P_M0 ++ c.P_M1 ++ c.P_M2

/-! ### Header arithmetic -/

/-- `pixelCount = {hiByte, loByte}`, big-endian (R55, R73). -/
def pixelCount (hi lo : Byte) : BitVec 16 := hi ++ lo

/-- `payloadLength = 3 × (zext_18(pixelCount) + 1)`, in 18 bits (R74). -/
def payloadLength (hi lo : Byte) : Len := 3 * ((pixelCount hi lo).setWidth 18 + 1)

/-- The valid checksum of a header: `hiByte ^ loByte ^ P_K` (R77). -/
def checksum (c : Params) (hi lo : Byte) : Byte := hi ^^^ lo ^^^ c.P_K

/-- `dlen = min(plen, P_C)`, the number of bytes the drain emits (R83). -/
def State.dlen (s : State) : Nat := min s.plen.toNat s.cfg.P_C

/-! ### Counter widths (R15) -/

/-- `⌈log2 n⌉`, and 0 for 0. -/
def ceilLog2 (n : Nat) : Nat := if n ≤ 1 then 0 else Nat.log2 (n - 1) + 1

/-- `TC_W`, the width of the tick counter. -/
def tickWidth (c : Params) : Nat := max 1 (ceilLog2 c.P_TICK_CYCLES)

/-- `LT_W`, the width of the latch counter. -/
def latchWidth (c : Params) : Nat := max 1 (ceilLog2 c.P_LATCH_TICKS)

/-- `IT_W`, the width of the idle counter. -/
def idleWidth (c : Params) : Nat := max 1 (ceilLog2 (max c.P_IDLE_TIMEOUT 1))

/-- A counter of `width` bits one higher, as its register stores it (R16, R92; log 7). -/
def countUp (width n : Nat) : Nat := (n + 1) % 2 ^ width

end Sys2Proof.Machine
end

