-- ==== Sys2Proof/Machine/Ops.lean ====
section
/-!
DEFINITION. The operations that the meanings share: the PixelBuffer's read and write, the port events accept and emit,
the error label raise, the recovery from an error, and the end of a cycle.
-/
namespace Sys2Proof.Machine

/-! ### The PixelBuffer -/

/-- The byte that has been written at index `i`, if one has. -/
def Memory.read : Memory → Nat → Option Byte
  | [], _ => none
  | (a, b) :: m, i => if a = i then some b else Memory.read m i

/-- The buffer with byte `v` written at index `i`: the list stays sorted by index. -/
def Memory.write : Memory → Nat → Byte → Memory
  | [], i, v => [(i, v)]
  | (a, b) :: m, i, v =>
    if i < a then (i, v) :: (a, b) :: m else if i = a then (i, v) :: m else (a, b) :: Memory.write m i v

/-- The canonical form: indices strictly rising. An index that is not listed has no written byte, so no entry can
repeat what an unlisted index holds. -/
abbrev Memory.wf (m : Memory) : Prop := m.Pairwise fun x y => x.1 < y.1

/-- Every listed index is one of a buffer of `n` bytes (R50). -/
abbrev Memory.within (m : Memory) (n : Nat) : Prop := ∀ x ∈ m, x.1 < n

/-- What the buffer holds at index `i`: the byte written there, or what power-on left (R53; log 5). -/
def State.bufAt (s : State) (i : Nat) : Byte := (Memory.read s.buf i).getD (Config.powerOnByte i)

/-- `MemRead(i, 1)` (R52). There is no byte at an index at or above P_C (R50; log 6). -/
def State.memRead (s : State) (i : Nat) : Option Byte := if i < s.cfg.P_C then some (s.bufAt i) else none

/-- `MemWrite(i, 1, v)` (R51). -/
def State.memWrite (s : State) (i : Nat) (v : Byte) : State := { s with buf := Memory.write s.buf i v }

/-- `if cursor < P_C then MemWrite(cursor, 1, in_data)` (R132, R133). -/
def State.storePayload (s : State) : State :=
  if s.cursor.toNat < s.cfg.P_C then s.memWrite s.cursor.toNat s.port.inData else s

/-! ### Port events and error labels (R17) -/

/-- `accept(in_data)`: the byte offered in this cycle is transferred on the inbound port (R28). -/
def State.accept (s : State) : State := { s with accepted := (s.cycle, s.port.inData) :: s.accepted }

/-- `emit(b)`: the byte is transferred on the outbound port in this cycle (R28). -/
def State.emit (s : State) (b : Byte) : State := { s with emitted := (s.cycle, b) :: s.emitted }

/-- `raise <Cause>()`: the label of the error class; it has no other effect (R17, R176). -/
def State.raise (s : State) (e : ErrorClass) : State := { s with raised := (s.cycle, e) :: s.raised }

/-! ### Recovery, the block's form of trap entry (R175) -/

/-- What every recovery does: the label of its class if it has one, then `state <- SM`, `hdr_cnt <- 0` and
`idle_cnt <- 0`. Nothing is saved, and no operation returns from it (R179). The recoveries out of ReadingHeader do
nothing else (R114 to R117). -/
def State.recover (s : State) (e : Option ErrorClass) : State :=
  { (match e with
      | some c => s.raise c
      | none => s) with state := .sm, hdr_cnt := 0, idle_cnt := 0 }

/-- A recovery out of ReadingPayload discards the payload too: `cursor <- 0` (R131, R175; log 9). -/
def State.dropPayload (s : State) (e : Option ErrorClass) : State := { s.recover e with cursor := 0 }

/-! ### Counting an idle cycle -/

/-- `if P_IDLE_TIMEOUT != 0 then idle_cnt <- idle_cnt + 1` (R110, R130). -/
def State.countIdle (s : State) : State :=
  if s.cfg.P_IDLE_TIMEOUT ≠ 0 then { s with idle_cnt := countUp (idleWidth s.cfg) s.idle_cnt } else s

/-! ### The clock edge -/

/-- The edge that ends the cycle: the environment's next levels are next (R7, R18; log 1). -/
def State.endCycle (s : State) : State := { s with feed := s.feed.tail, cycle := s.cycle + 1 }

end Sys2Proof.Machine
end

