-- ==== Sys2Proof/Machine/Header.lean ====
section
/-!
DEFINITION. The FrameHeaderDecoder's operations (spec/41_header.md R110 to R117).
-/
namespace Sys2Proof.Machine

/-- HDR_WAIT (R110). -/
def execHdrWait (s : State) : Host.Outcome State Fault Refusal := .next s.countIdle

/-- HDR_HI (R111): byte 1 is hiByte. -/
def execHdrHi (s : State) : Host.Outcome State Fault Refusal :=
  .next { s.accept with
    hdr_hi := s.port.inData
    hdr_cnt := 1
    idle_cnt := 0 }

/-- HDR_LO (R112): byte 2 is loByte. -/
def execHdrLo (s : State) : Host.Outcome State Fault Refusal :=
  .next { s.accept with
    hdr_lo := s.port.inData
    hdr_cnt := 2
    idle_cnt := 0 }

/-- HDR_CHK_OK (R113): the header is valid and its length fits; the payload begins. -/
def execHdrChkOk (s : State) : Host.Outcome State Fault Refusal :=
  .next { s.accept with
    plen := payloadLength s.hdr_hi s.hdr_lo
    cursor := 0
    hdr_cnt := 0
    idle_cnt := 0
    state := .rp }

/-- HDR_CHK_BAD (R114): ChecksumMismatch. -/
def execHdrChkBad (s : State) : Host.Outcome State Fault Refusal :=
  .next (s.accept.recover (some .checksumMismatch))

/-- HDR_OVERSIZE (R115): OversizedFrame under REJECT. -/
def execHdrOversize (s : State) : Host.Outcome State Fault Refusal :=
  .next (s.accept.recover (some .oversizedFrame))

/-- HDR_RSVD (R116): recovery from hdr_cnt = 3, with no class named. -/
def execHdrRsvd (s : State) : Host.Outcome State Fault Refusal :=
  .next (s.accept.recover none)

/-- HDR_TIMEOUT (R117): StalledTransport. -/
def execHdrTimeout (s : State) : Host.Outcome State Fault Refusal :=
  .next (s.recover (some .stalledTransport))

end Sys2Proof.Machine
end

