-- ==== Sys2Proof/Machine/Latch.lean ====
section
/-!
DEFINITION. The TransmitLatchController's operations: drain (spec/43_latch.md R141 to R143) and settle (R144 to R146).
-/
namespace Sys2Proof.Machine

/-- DRAIN_WAIT (R141): the sink is not ready; no register is written. -/
def execDrainWait (s : State) : Host.Outcome State Fault Refusal := .next s

/-- DRAIN_EMIT (R142): emit a byte that is not the last. -/
def execDrainEmit (s : State) : Host.Outcome State Fault Refusal :=
  match s.memRead s.didx.toNat with
  | some b => .next { s.emit b with didx := s.didx + 1 }
  | none => .fault .readOutsideBuffer

/-- DRAIN_LAST (R143): emit the last byte, then start the settle. -/
def execDrainLast (s : State) : Host.Outcome State Fault Refusal :=
  match s.memRead s.didx.toNat with
  | some b =>
    .next { s.emit b with
      didx := 0
      lphase := .settle
      tick_cnt := 0
      latch_cnt := 0 }
  | none => .fault .readOutsideBuffer

/-- SETTLE_CYCLE (R144): a cycle that is not the last of its tick. -/
def execSettleCycle (s : State) : Host.Outcome State Fault Refusal :=
  .next { s with tick_cnt := countUp (tickWidth s.cfg) s.tick_cnt }

/-- SETTLE_TICK (R145): the last cycle of a tick that is not the last tick. -/
def execSettleTick (s : State) : Host.Outcome State Fault Refusal :=
  .next { s with
    tick_cnt := 0
    latch_cnt := countUp (latchWidth s.cfg) s.latch_cnt }

/-- SETTLE_DONE (R146): the last cycle of the last tick; the MagicSynchronizer is armed again. -/
def execSettleDone (s : State) : Host.Outcome State Fault Refusal :=
  .next { s with
    tick_cnt := 0
    latch_cnt := 0
    cursor := 0
    lphase := .drain
    state := .sm }

end Sys2Proof.Machine
end

