-- ==== Sys2Proof/Machine/Payload.lean ====
section
/-!
DEFINITION. The PayloadAccumulator's operations (spec/42_payload.md R130 to R133). The CAP policy (R134) is the guard
of `State.storePayload`: past the capacity a byte is consumed and not written.
-/
namespace Sys2Proof.Machine

/-- PAY_WAIT (R130). -/
def execPayWait (s : State) : Host.Outcome State Fault Refusal := .next s.countIdle

/-- PAY_TIMEOUT (R131, R175): StalledTransport. -/
def execPayTimeout (s : State) : Host.Outcome State Fault Refusal :=
  .next (s.dropPayload (some .stalledTransport))

/-- PAY_STORE (R132): a payload byte that is not the last. -/
def execPayStore (s : State) : Host.Outcome State Fault Refusal :=
  .next { s.accept.storePayload with
    cursor := s.cursor + 1
    idle_cnt := 0 }

/-- PAY_LAST (R133): the last payload byte; the drain begins. -/
def execPayLast (s : State) : Host.Outcome State Fault Refusal :=
  .next { s.accept.storePayload with
    cursor := s.cursor + 1
    idle_cnt := 0
    didx := 0
    lphase := .drain
    state := .la }

end Sys2Proof.Machine
end

