-- ==== Sys2Proof/Machine/Reset.lean ====
section
/-!
DEFINITION. RESET (spec/70_reset_and_hazards.md R190).
-/
namespace Sys2Proof.Machine

/-- RESET (R190): every register takes its reset value; the PixelBuffer is not written (R53), no byte is accepted and
none is emitted. -/
def execReset (s : State) : Host.Outcome State Fault Refusal :=
  .next { s with
    state := .sm
    lphase := .drain
    mw := 0x000000
    mw_cnt := 0
    hdr_cnt := 0
    hdr_hi := 0x00
    hdr_lo := 0x00
    plen := 0
    cursor := 0
    didx := 0
    latch_cnt := 0
    tick_cnt := 0
    idle_cnt := 0 }

end Sys2Proof.Machine
end

