-- ==== Sys2Proof/Machine/Sync.lean ====
section
/-!
DEFINITION. The MagicSynchronizer's operations (spec/40_sync.md R100 to R102).
-/
namespace Sys2Proof.Machine

/-- SEEK_IDLE (R100): no register is written. -/
def execSeekIdle (s : State) : Host.Outcome State Fault Refusal := .next s

/-- SEEK_SHIFT (R101): the byte is accepted into the window; SyncLoss, which is normal scanning (R171). -/
def execSeekShift (s : State) : Host.Outcome State Fault Refusal :=
  .next { s.accept.raise .syncLoss with
    mw := shiftWindow s.mw s.port.inData
    mw_cnt := countByte s.mw_cnt }

/-- SEEK_MATCH (R102): the byte completes the marker; the window is discarded and the header begins. -/
def execSeekMatch (s : State) : Host.Outcome State Fault Refusal :=
  .next { s.accept with
    mw := 0x000000
    mw_cnt := 0
    hdr_cnt := 0
    idle_cnt := 0
    state := .rh }

end Sys2Proof.Machine
end

