-- ==== Sys2Proof/Syntax.lean ====
section
/-!
DEFINITION. The operations of the block: one constructor for each row of the operation map
(spec/30_encoding.md R88, spec/opcode_table.json).
-/
namespace Sys2Proof

/-- An operation of the block as it stands in a selector word. The operand `unread` holds the SEL bits that the
operation's row does not read (the `x` of R88), each in its own place: no operation looks at them (log 14). -/
inductive Instr where
  /-- RESET, R190 of spec/70_reset_and_hazards.md: power-on. -/
  | reset (unread : Sel)
  /-- SEEK_IDLE, R100 of spec/40_sync.md: SM stays SM. -/
  | seekIdle (unread : Sel)
  /-- SEEK_SHIFT, R101 of spec/40_sync.md: SM stays SM. -/
  | seekShift (unread : Sel)
  /-- SEEK_MATCH, R102 of spec/40_sync.md: SM to RH. -/
  | seekMatch (unread : Sel)
  /-- HDR_WAIT, R110 of spec/41_header.md: RH stays RH. -/
  | hdrWait (unread : Sel)
  /-- HDR_HI, R111 of spec/41_header.md: RH stays RH. -/
  | hdrHi (unread : Sel)
  /-- HDR_LO, R112 of spec/41_header.md: RH stays RH. -/
  | hdrLo (unread : Sel)
  /-- HDR_CHK_OK, R113 of spec/41_header.md: RH to RP. -/
  | hdrChkOk (unread : Sel)
  /-- HDR_CHK_BAD, R114 of spec/41_header.md: RH to SM. -/
  | hdrChkBad (unread : Sel)
  /-- HDR_OVERSIZE, R115 of spec/41_header.md: RH to SM. -/
  | hdrOversize (unread : Sel)
  /-- HDR_RSVD, R116 of spec/41_header.md: unreachable. -/
  | hdrRsvd (unread : Sel)
  /-- HDR_TIMEOUT, R117 of spec/41_header.md: RH to SM. -/
  | hdrTimeout (unread : Sel)
  /-- PAY_WAIT, R130 of spec/42_payload.md: RP stays RP. -/
  | payWait (unread : Sel)
  /-- PAY_TIMEOUT, R131 of spec/42_payload.md: RP to SM. -/
  | payTimeout (unread : Sel)
  /-- PAY_STORE, R132 of spec/42_payload.md: RP stays RP. -/
  | payStore (unread : Sel)
  /-- PAY_LAST, R133 of spec/42_payload.md: RP to LA (DRAIN). -/
  | payLast (unread : Sel)
  /-- DRAIN_WAIT, R141 of spec/43_latch.md: LA (DRAIN) stays. -/
  | drainWait (unread : Sel)
  /-- DRAIN_EMIT, R142 of spec/43_latch.md: LA (DRAIN) stays. -/
  | drainEmit (unread : Sel)
  /-- DRAIN_LAST, R143 of spec/43_latch.md: LA (DRAIN) to LA (SETTLE). -/
  | drainLast (unread : Sel)
  /-- SETTLE_CYCLE, R144 of spec/43_latch.md: LA (SETTLE) stays. -/
  | settleCycle (unread : Sel)
  /-- SETTLE_TICK, R145 of spec/43_latch.md: LA (SETTLE) stays. -/
  | settleTick (unread : Sel)
  /-- SETTLE_DONE, R146 of spec/43_latch.md: LA to SM. -/
  | settleDone (unread : Sel)
deriving DecidableEq, Repr

end Sys2Proof
end

