-- ==== Sys2Proof/Machine/Dispatch.lean ====
section
/-!
DEFINITION. One arm for each operation of the block: the meaning that the cycle performs (spec/30_encoding.md R87).
-/
namespace Sys2Proof.Machine

def exec (i : Instr) (s : State) : Host.Outcome State Fault Refusal :=
  match i with
  | .reset _ => Sys2Proof.Machine.execReset s
  | .seekIdle _ => Sys2Proof.Machine.execSeekIdle s
  | .seekShift _ => Sys2Proof.Machine.execSeekShift s
  | .seekMatch _ => Sys2Proof.Machine.execSeekMatch s
  | .hdrWait _ => Sys2Proof.Machine.execHdrWait s
  | .hdrHi _ => Sys2Proof.Machine.execHdrHi s
  | .hdrLo _ => Sys2Proof.Machine.execHdrLo s
  | .hdrChkOk _ => Sys2Proof.Machine.execHdrChkOk s
  | .hdrChkBad _ => Sys2Proof.Machine.execHdrChkBad s
  | .hdrOversize _ => Sys2Proof.Machine.execHdrOversize s
  | .hdrRsvd _ => Sys2Proof.Machine.execHdrRsvd s
  | .hdrTimeout _ => Sys2Proof.Machine.execHdrTimeout s
  | .payWait _ => Sys2Proof.Machine.execPayWait s
  | .payTimeout _ => Sys2Proof.Machine.execPayTimeout s
  | .payStore _ => Sys2Proof.Machine.execPayStore s
  | .payLast _ => Sys2Proof.Machine.execPayLast s
  | .drainWait _ => Sys2Proof.Machine.execDrainWait s
  | .drainEmit _ => Sys2Proof.Machine.execDrainEmit s
  | .drainLast _ => Sys2Proof.Machine.execDrainLast s
  | .settleCycle _ => Sys2Proof.Machine.execSettleCycle s
  | .settleTick _ => Sys2Proof.Machine.execSettleTick s
  | .settleDone _ => Sys2Proof.Machine.execSettleDone s

end Sys2Proof.Machine
end

