-- ==== Sys2Proof/Machine/Flags.lean ====
section
/-!
DEFINITION. The eight combinational conditions of a cycle (spec/30_encoding.md R79 to R86) and the selector word made
of them (R78). The block stores no flag (spec/10_state.md R42).
-/
namespace Sys2Proof.Machine

/-- The byte offered now would complete the marker (R79). -/
def mmatch (s : State) : Bool :=
  decide (2 ≤ s.mw_cnt.toNat) && (slot1 s.mw ++ slot0 s.mw ++ s.port.inData == marker s.cfg)

/-- The byte offered now is the header's valid checksum (R80). -/
def chkOk (s : State) : Bool := s.port.inData == checksum s.cfg s.hdr_hi s.hdr_lo

/-- The header's length is over capacity and the policy is REJECT (R81). -/
def rejOver (s : State) : Bool :=
  decide (s.cfg.P_OVERSIZE = .reject) && decide ((payloadLength s.hdr_hi s.hdr_lo).toNat > s.cfg.P_C)

/-- The byte accepted now makes the cursor reach payloadLength (R82). -/
def payLast (s : State) : Bool := s.cursor.toNat + 1 == s.plen.toNat

/-- The byte emitted now is the drain's last (R83). -/
def drainLast (s : State) : Bool := s.didx.toNat + 1 == s.dlen

/-- This is the last cycle of a settle tick (R84). -/
def tickEnd (s : State) : Bool := s.tick_cnt + 1 == s.cfg.P_TICK_CYCLES

/-- The tick of this cycle is the last one (R85). -/
def latchEnd (s : State) : Bool := s.latch_cnt + 1 == s.cfg.P_LATCH_TICKS

/-- This cycle, if it accepts no byte, completes the idle timeout (R86). -/
def idleEnd (s : State) : Bool :=
  s.cfg.P_IDLE_TIMEOUT != 0 && s.idle_cnt + 1 == s.cfg.P_IDLE_TIMEOUT

/-- The selector word of the cycle, bit 15 on the left (R78). -/
def sel (s : State) : Sel :=
  BitVec.ofBool s.port.rst ++ s.state.code ++ s.lphase.code ++ s.hdr_cnt ++ BitVec.ofBool s.port.inValid ++
    BitVec.ofBool s.port.outReady ++ BitVec.ofBool (mmatch s) ++ BitVec.ofBool (chkOk s) ++
    BitVec.ofBool (rejOver s) ++ BitVec.ofBool (payLast s) ++ BitVec.ofBool (drainLast s) ++
    BitVec.ofBool (tickEnd s) ++ BitVec.ofBool (latchEnd s) ++ BitVec.ofBool (idleEnd s)

end Sys2Proof.Machine
end

