-- ==== Sys2Proof/Machine/Fetch.lean ====
section
/-!
DEFINITION. Where a cycle's operation comes from: the block fetches nothing (spec/20_memory.md R64), it forms SEL from
its registers and ports (spec/30_encoding.md R78). To have a given word be the next cycle's, the registers and ports
that R78 and R79 to R86 read are set so that they form it.
-/
namespace Sys2Proof.Machine

/-- The word whose operation the next step performs: SEL (R87). -/
def State.fetchWord (s : State) : Sel := sel s

/-- The build in which every selector word can be formed: the reference build with the parameters of
spec/95_test_vectors.md section 0, and an idle timeout of one cycle if `idle` (log 13). -/
def presentBuild (c : Params) (idle : Bool) : Params :=
  { c with
    P_C := 1500
    P_M0 := 0x41
    P_M1 := 0x64
    P_M2 := 0x61
    P_LATCH_TICKS := 5
    P_TICK_CYCLES := 2
    P_OVERSIZE := .reject
    P_IDLE_TIMEOUT := if idle then 1 else 0 }

/-- The header bytes that make rej_over and chk_ok as given, for the byte 0x61 in `presentBuild` (R80, R81). -/
def presentHi (rej : Bool) : Byte := if rej then 0xFF else 0x00

/-- See `presentHi`. -/
def presentLo (k : Byte) (rej chk : Bool) : Byte := presentHi rej ^^^ k ^^^ (if chk then 0x61 else 0x60)

/-- The state `s` with registers, parameters and this cycle's port levels such that SEL is `w` (log 13). -/
def State.presentSel (s : State) (w : Sel) : State :=
  { s with
    state := ProtocolState.ofCode (w.extractLsb' 13 2)
    lphase := LPhase.ofCode (w.extractLsb' 12 1)
    hdr_cnt := w.extractLsb' 10 2
    mw := if w.getLsbD 7 then 0x004164 else 0x000000
    mw_cnt := if w.getLsbD 7 then 2 else 0
    hdr_hi := presentHi (w.getLsbD 5)
    hdr_lo := presentLo s.cfg.P_K (w.getLsbD 5) (w.getLsbD 6)
    plen := 3
    cursor := if w.getLsbD 4 then 2 else 0
    didx := if w.getLsbD 3 then 2 else 0
    tick_cnt := if w.getLsbD 2 then 1 else 0
    latch_cnt := if w.getLsbD 1 then 4 else 0
    idle_cnt := 0
    cfg := presentBuild s.cfg (w.getLsbD 0)
    feed := ⟨w.getLsbD 15, w.getLsbD 9, 0x61, w.getLsbD 8⟩ :: s.feed.tail }

end Sys2Proof.Machine
end

