-- ==== Sys2Proof/Decode.lean ====
section
/-!
DEFINITION. The operation map (spec/30_encoding.md R88) as a table of rows, the decoder that selects the row a
selector word matches (R87), its form on bytes, and the encoder written from the same rows.
-/
namespace Sys2Proof

/-! ### The operation map -/

/-- One row of the operation map (R88): the bits it reads, the values it wants there, and its operation. -/
structure Row where
  /-- The bits the row reads. -/
  mask : Sel
  /-- The values those bits must have (the column "match"). -/
  pattern : Sel
  /-- The row's operation, given the bits the row does not read. -/
  make : Sel → Instr

/-- The row matches a selector word: `SEL & mask == match` (R87). -/
def Row.selects (r : Row) (w : Sel) : Bool := w &&& r.mask == r.pattern

/-- RESET: `1xxxxxxxxxxxxxxx` (R190). -/
def rowReset : Row := ⟨0x8000, 0x8000, .reset⟩
/-- SEEK_IDLE: `000xxx0xxxxxxxxx` (R100). -/
def rowSeekIdle : Row := ⟨0xE200, 0x0000, .seekIdle⟩
/-- SEEK_SHIFT: `000xxx1x0xxxxxxx` (R101). -/
def rowSeekShift : Row := ⟨0xE280, 0x0200, .seekShift⟩
/-- SEEK_MATCH: `000xxx1x1xxxxxxx` (R102). -/
def rowSeekMatch : Row := ⟨0xE280, 0x0280, .seekMatch⟩
/-- HDR_WAIT: `001xxx0xxxxxxxx0` (R110). -/
def rowHdrWait : Row := ⟨0xE201, 0x2000, .hdrWait⟩
/-- HDR_HI: `001x001xxxxxxxxx` (R111). -/
def rowHdrHi : Row := ⟨0xEE00, 0x2200, .hdrHi⟩
/-- HDR_LO: `001x011xxxxxxxxx` (R112). -/
def rowHdrLo : Row := ⟨0xEE00, 0x2600, .hdrLo⟩
/-- HDR_CHK_OK: `001x101xx10xxxxx` (R113). -/
def rowHdrChkOk : Row := ⟨0xEE60, 0x2A40, .hdrChkOk⟩
/-- HDR_CHK_BAD: `001x101xx0xxxxxx` (R114). -/
def rowHdrChkBad : Row := ⟨0xEE40, 0x2A00, .hdrChkBad⟩
/-- HDR_OVERSIZE: `001x101xx11xxxxx` (R115). -/
def rowHdrOversize : Row := ⟨0xEE60, 0x2A60, .hdrOversize⟩
/-- HDR_RSVD: `001x111xxxxxxxxx` (R116). -/
def rowHdrRsvd : Row := ⟨0xEE00, 0x2E00, .hdrRsvd⟩
/-- HDR_TIMEOUT: `001xxx0xxxxxxxx1` (R117). -/
def rowHdrTimeout : Row := ⟨0xE201, 0x2001, .hdrTimeout⟩
/-- PAY_WAIT: `010xxx0xxxxxxxx0` (R130). -/
def rowPayWait : Row := ⟨0xE201, 0x4000, .payWait⟩
/-- PAY_TIMEOUT: `010xxx0xxxxxxxx1` (R131). -/
def rowPayTimeout : Row := ⟨0xE201, 0x4001, .payTimeout⟩
/-- PAY_STORE: `010xxx1xxxx0xxxx` (R132). -/
def rowPayStore : Row := ⟨0xE210, 0x4200, .payStore⟩
/-- PAY_LAST: `010xxx1xxxx1xxxx` (R133). -/
def rowPayLast : Row := ⟨0xE210, 0x4210, .payLast⟩
/-- DRAIN_WAIT: `0110xxx0xxxxxxxx` (R141). -/
def rowDrainWait : Row := ⟨0xF100, 0x6000, .drainWait⟩
/-- DRAIN_EMIT: `0110xxx1xxxx0xxx` (R142). -/
def rowDrainEmit : Row := ⟨0xF108, 0x6100, .drainEmit⟩
/-- DRAIN_LAST: `0110xxx1xxxx1xxx` (R143). -/
def rowDrainLast : Row := ⟨0xF108, 0x6108, .drainLast⟩
/-- SETTLE_CYCLE: `0111xxxxxxxxx0xx` (R144). -/
def rowSettleCycle : Row := ⟨0xF004, 0x7000, .settleCycle⟩
/-- SETTLE_TICK: `0111xxxxxxxxx10x` (R145). -/
def rowSettleTick : Row := ⟨0xF006, 0x7004, .settleTick⟩
/-- SETTLE_DONE: `0111xxxxxxxxx11x` (R146). -/
def rowSettleDone : Row := ⟨0xF006, 0x7006, .settleDone⟩

/-- The 22 rows, in the order of R88. -/
def rows : List Row :=
  [rowReset, rowSeekIdle, rowSeekShift, rowSeekMatch] ++
  [rowHdrWait, rowHdrHi, rowHdrLo, rowHdrChkOk] ++
  [rowHdrChkBad, rowHdrOversize, rowHdrRsvd, rowHdrTimeout] ++
  [rowPayWait, rowPayTimeout, rowPayStore, rowPayLast] ++
  [rowDrainWait, rowDrainEmit, rowDrainLast, rowSettleCycle] ++
  [rowSettleTick, rowSettleDone]

/-- The row of an operation. -/
def Instr.row : Instr → Row
  | .reset _ => rowReset
  | .seekIdle _ => rowSeekIdle
  | .seekShift _ => rowSeekShift
  | .seekMatch _ => rowSeekMatch
  | .hdrWait _ => rowHdrWait
  | .hdrHi _ => rowHdrHi
  | .hdrLo _ => rowHdrLo
  | .hdrChkOk _ => rowHdrChkOk
  | .hdrChkBad _ => rowHdrChkBad
  | .hdrOversize _ => rowHdrOversize
  | .hdrRsvd _ => rowHdrRsvd
  | .hdrTimeout _ => rowHdrTimeout
  | .payWait _ => rowPayWait
  | .payTimeout _ => rowPayTimeout
  | .payStore _ => rowPayStore
  | .payLast _ => rowPayLast
  | .drainWait _ => rowDrainWait
  | .drainEmit _ => rowDrainEmit
  | .drainLast _ => rowDrainLast
  | .settleCycle _ => rowSettleCycle
  | .settleTick _ => rowSettleTick
  | .settleDone _ => rowSettleDone

/-- The bits of its word that an operation's row does not read. -/
def Instr.unread : Instr → Sel
  | .reset u => u
  | .seekIdle u => u
  | .seekShift u => u
  | .seekMatch u => u
  | .hdrWait u => u
  | .hdrHi u => u
  | .hdrLo u => u
  | .hdrChkOk u => u
  | .hdrChkBad u => u
  | .hdrOversize u => u
  | .hdrRsvd u => u
  | .hdrTimeout u => u
  | .payWait u => u
  | .payTimeout u => u
  | .payStore u => u
  | .payLast u => u
  | .drainWait u => u
  | .drainEmit u => u
  | .drainLast u => u
  | .settleCycle u => u
  | .settleTick u => u
  | .settleDone u => u

/-! ### Decoding -/

/-- The operation a selector word selects: the row that matches it (R87), with the word's unread bits. R89 says that
every word has exactly one row, so `none` is never the answer. -/
def decodeSel (w : Sel) : Option Instr :=
  (rows.find? fun r => r.selects w).map fun r => r.make (w &&& ~~~r.mask)

/-- Why a list of bytes is no selector word. -/
inductive DecodeError where
  /-- Fewer than two bytes. -/
  | truncated
  /-- More than two bytes. -/
  | trailing
  /-- No row of R88 matches (R89: it never happens). -/
  | noRow
deriving DecidableEq, Repr

/-- Decoding any list of bytes: a selector word is two bytes, its bits 7 to 0 first (log 12). -/
def decodeBytes : List Byte → Except DecodeError Instr
  | [] => .error .truncated
  | [_] => .error .truncated
  | [b0, b1] =>
    match decodeSel (b1 ++ b0) with
    | some i => .ok i
    | none => .error .noRow
  | _ :: _ :: _ :: _ => .error .trailing

/-- The bytes of a selector word, its bits 7 to 0 first (log 12). -/
def selBytes (w : Sel) : List Byte := [w.extractLsb' 0 8, w.extractLsb' 8 8]

/-- The instruction the decoder reads from a row's word of `nbits` bits `w`, numbered as spec/opcode_table.json
numbers them; every bit from `nbits` up is 0. A selector word has 16 bits (R78). -/
def decodeTableWord (nbits w : Nat) : Option Instr :=
  if nbits ≤ 16 then (decodeBytes (selBytes (BitVec.ofNat 16 (w % 2 ^ nbits)))).toOption else none

/-! ### Encoding -/

/-- The selector word of an operation: its row's match bits, with the operation's unread bits in their places. -/
def encode (i : Instr) : Sel := i.row.pattern ||| i.unread

/-- The bytes of an operation's selector word. -/
def encodeBytes (i : Instr) : List Byte := selBytes (encode i)

end Sys2Proof
end

