-- ==== Sys2Proof/WellFormed.lean ====
section
/-!
DEFINITION. What makes an operation and a build well formed: an operation's unread bits lie outside the bits its row
reads (spec/30_encoding.md R88), and a build's parameters lie in the ranges that a build must refuse to leave
(spec/70_reset_and_hazards.md R195).
-/
namespace Sys2Proof

/-- The operation's unread bits are none of the bits its row reads (R88: an `x` stands only where the mask is 0). -/
def Instr.wf (i : Instr) : Bool := i.unread &&& i.row.mask == 0

/-- `3 ≤ P_C ≤ 196608` (R8, R195). -/
def Params.capacityOk (c : Params) : Bool := decide (3 ≤ c.P_C) && decide (c.P_C ≤ 196608)

/-- `P_LATCH_TICKS ≥ 1` (R11, R195). -/
def Params.latchTicksOk (c : Params) : Bool := decide (1 ≤ c.P_LATCH_TICKS)

/-- `P_TICK_CYCLES ≥ 1` (R12, R195). -/
def Params.tickCyclesOk (c : Params) : Bool := decide (1 ≤ c.P_TICK_CYCLES)

/-- The build is one that R195 allows. P_K and the marker bytes are bytes, P_OVERSIZE is one of its two values and
P_IDLE_TIMEOUT is a natural by their types. -/
def Params.legal (c : Params) : Bool := c.capacityOk && c.latchTicksOk && c.tickCyclesOk

end Sys2Proof
end

