-- ==== Sys2Proof/Machine/Step.lean ====
section
/-!
DEFINITION. One step: one rising edge of the clock (spec/00_scope.md R7; spec/30_encoding.md R87).
-/
namespace Sys2Proof.Machine

/-- One clock cycle: form SEL, perform the operation of the row it matches, and take the edge (R87). There is no block
of a build that R195 refuses (log 11). -/
def step (s : State) : Host.Outcome State Fault Refusal :=
  if s.cfg.legal then
    match decodeSel s.fetchWord with
    | some i =>
      match exec i s with
      | .next t => .next t.endCycle
      | .fault f => .fault f
      | .refused r => .refused r
    | none => .refused .noRow
  else .refused .illegalBuild

/-- The state `s` in which the next step's selector word is the table word `w` of `nbits` bits (log 13). -/
def State.withFetchWord (s : State) (nbits w : Nat) : State :=
  s.presentSel (BitVec.ofNat 16 (w % 2 ^ nbits))

end Sys2Proof.Machine
end

