-- ==== Sys2Proof/Machine/Outputs.lean ====
section
/-!
DEFINITION. The output ports of a cycle (spec/10_state.md R23 to R27; spec/43_latch.md R140) and the two handshakes
(R28).
-/
namespace Sys2Proof.Machine

/-- `in_ready` (R23). -/
def inReady (s : State) : Bool := !s.port.rst && decide (s.state ≠ .la)

/-- `out_valid` (R24, R140). -/
def outValid (s : State) : Bool := !s.port.rst && decide (s.state = .la) && decide (s.lphase = .drain)

/-- `out_data`, the serial output multiplexer (R25, R140). There is no value where the multiplexer would read an index
the PixelBuffer does not have (R52), which no run from reset reaches (R43 INV7; log 6). -/
def outData (s : State) : Option Byte := if outValid s then s.memRead s.didx.toNat else some 0x00

/-- `state_o` (R27). -/
def stateO (s : State) : BitVec 2 := s.state.code

/-- `lphase_o` (R27). -/
def lphaseO (s : State) : BitVec 1 := s.lphase.code

/-- `acc_in`: an inbound byte is accepted in this cycle (R28). -/
def accIn (s : State) : Bool := s.port.inValid && inReady s

/-- `acc_out`: an outbound byte is emitted in this cycle (R28). -/
def accOut (s : State) : Bool := outValid s && s.port.outReady

end Sys2Proof.Machine
end

