-- ==== Sys2Proof/Safety.lean ====
section
/-!
DEFINITION. The invariants of every reachable state (spec/10_state.md R43, INV1 to INV10), with what the model's own
record of the ports adds to them, and the terms in which claims speak of payload bytes.
-/
namespace Sys2Proof.Machine

/-- The (i+1)-th payload byte accepted in the current frame. The cursor counts the payload bytes accepted since the last
HDR_CHK_OK (R38), so they are the last `cursor` bytes accepted, and the (i+1)-th stands at `cursor - 1 - i` from the
newest. -/
def State.payloadByte (s : State) (i : Nat) : Option Byte := (s.accepted[s.cursor.toNat - 1 - i]?).map Prod.snd

/-- The (i+1)-th of the last `n` bytes emitted. -/
def State.emittedByte (s : State) (n i : Nat) : Option Byte := (s.emitted[n - 1 - i]?).map Prod.snd

/-- How many bytes of the current frame's drain have been emitted. -/
def State.drained (s : State) : Nat := if s.state = .la ∧ s.lphase = .settle then s.dlen else s.didx.toNat

/-- Slot k of the window (R33). -/
def slotAt (w : Window) (k : Nat) : Byte := if k = 0 then slot0 w else if k = 1 then slot1 w else slot2 w

/-- The registers, the PixelBuffer and the build of a state, without its environment and its record of the ports. -/
def State.view (s : State) : State := { s with feed := [], cycle := 0, accepted := [], emitted := [], raised := [] }

/-- INV1 to INV10 of R43, the build's legality (R195), the PixelBuffer's canonical form and bound, and what the record
of the ports holds. -/
structure Inv (s : State) : Prop where
  /-- The build is legal (R195). -/
  legal : s.cfg.legal = true
  /-- INV1. -/
  inv1 : s.lphase = .settle → s.state = .la
  /-- INV2; mw_cnt is at most 3 by its width. -/
  inv2 : s.state ≠ .sm → s.mw_cnt = 0 ∧ s.mw = 0x000000
  /-- INV3. -/
  inv3 : s.hdr_cnt.toNat ≤ 2 ∧ (s.state ≠ .rh → s.hdr_cnt = 0)
  /-- INV4. -/
  inv4 : s.state = .sm ∨ s.state = .rh → s.cursor = 0
  /-- INV5. -/
  inv5 : (s.state = .rp → s.cursor.toNat < s.plen.toNat) ∧
    (s.state = .rp ∨ s.state = .la → s.plen.toNat % 3 = 0 ∧ 3 ≤ s.plen.toNat ∧ s.plen.toNat ≤ 196608 ∧
      (s.cfg.P_OVERSIZE = .reject → s.plen.toNat ≤ s.cfg.P_C))
  /-- INV6. -/
  inv6 : s.state = .la → s.cursor = s.plen
  /-- INV7. -/
  inv7 : (s.state = .la ∧ s.lphase = .drain → s.didx.toNat < s.dlen) ∧
    (¬(s.state = .la ∧ s.lphase = .drain) → s.didx = 0)
  /-- INV8. -/
  inv8 : (s.state = .la ∧ s.lphase = .settle →
      s.tick_cnt < s.cfg.P_TICK_CYCLES ∧ s.latch_cnt < s.cfg.P_LATCH_TICKS) ∧
    (¬(s.state = .la ∧ s.lphase = .settle) → s.tick_cnt = 0 ∧ s.latch_cnt = 0)
  /-- INV9. -/
  inv9 : (s.state = .sm ∨ s.state = .la → s.idle_cnt = 0) ∧ (s.cfg.P_IDLE_TIMEOUT = 0 → s.idle_cnt = 0) ∧
    s.idle_cnt < max s.cfg.P_IDLE_TIMEOUT 1
  /-- INV10, in RP as well: what has been stored of the payload so far. In LA the cursor is plen (INV6), so the bound is
  dlen there. -/
  inv10 : ∀ i, i < min s.cursor.toNat s.cfg.P_C →
    (Memory.read s.buf i).isSome = true ∧ s.payloadByte i = Memory.read s.buf i
  /-- The bytes emitted in the current drain are the buffer's, in order (R54). -/
  emittedHeld : ∀ i, i < s.drained →
    (Memory.read s.buf i).isSome = true ∧ s.emittedByte s.drained i = Memory.read s.buf i
  /-- The window's valid slots are the last bytes accepted (R33, R34). -/
  windowHeld : ∀ k, k < s.mw_cnt.toNat → (s.accepted[k]?).map Prod.snd = some (slotAt s.mw k)
  /-- The PixelBuffer's canonical form. -/
  bufWf : Memory.wf s.buf
  /-- Every written index is one of the PixelBuffer (R50, R58). -/
  bufWithin : Memory.within s.buf s.cfg.P_C

end Sys2Proof.Machine
end

