-- ==== Sys2Proof/Certificates/Slice0/Obligations.lean ====
section
/-!
DEFINITION. The statements for the provers. Each says in its docstring which rule of the spec it formalises, and names
the log entry of a convention that is the model's own.
-/
open Sys2Proof Sys2Proof.Machine

/-- Decoding an encoded well-formed operation gives it back, with its unread bits (30_encoding.md R88, 30_encoding.md
R89). For every well-formed operation i (its unread bits outside the bits its row reads), decoding the word encode i,
and decoding the bytes of that word, answers i itself with every unread bit. -/
def Obligations.DecodeOfEncodeIsTheInstruction : Prop :=
  ∀ i : Instr, i.wf = true → decodeSel (encode i) = some i ∧ decodeBytes (encodeBytes i) = .ok i

/-- Encoding the operation decoded from a word gives the word back (30_encoding.md R87, 30_encoding.md R88). For every
16-bit word w, if the decoder answers i then i is well formed and encode i is w: no bit of a word is dropped. -/
def Obligations.EncodeOfDecodeIsTheWord : Prop :=
  ∀ (w : Sel) (i : Instr), decodeSel w = some i → i.wf = true ∧ encode i = w

/-- Exactly one of the 22 rows matches each selector word (R89). The map has 22 rows; for every 16-bit word exactly one of
them matches, and the decoder answers an operation. -/
def Obligations.EverySelectorWordMatchesExactlyOneRow : Prop :=
  rows.length = 22 ∧
    ∀ w : Sel, (rows.countP fun r => r.selects w) = 1 ∧ (decodeSel w).isSome = true

/-- Selector words written out in the test vectors decode to the operations named there (30_encoding.md R88,
95_test_vectors.md section 2). Sixteen words of the vectors (RESET E100, SEEK_SHIFT 0300, SEEK_MATCH 0380, ...
SETTLE_DONE 7106) decode to the operation that the vector names, the unread bits kept. -/
def Obligations.WordsOfTheVectorsDecodeToTheirOperations : Prop :=
  decodeSel 0xE100 = some (.reset 0x6100) ∧ decodeSel 0xAB61 = some (.reset 0x2B61) ∧
    decodeSel 0x0100 = some (.seekIdle 0x0100) ∧ decodeSel 0x0300 = some (.seekShift 0x0100) ∧
    decodeSel 0x0380 = some (.seekMatch 0x0100) ∧ decodeSel 0x2701 = some (.hdrLo 0x0101) ∧
    decodeSel 0x2B20 = some (.hdrChkBad 0x0120) ∧ decodeSel 0x2B40 = some (.hdrChkOk 0x0100) ∧
    decodeSel 0x2B60 = some (.hdrOversize 0x0100) ∧ decodeSel 0x2F00 = some (.hdrRsvd 0x0100) ∧
    decodeSel 0x2501 = some (.hdrTimeout 0x0500) ∧ decodeSel 0x4101 = some (.payTimeout 0x0100) ∧
    decodeSel 0x4310 = some (.payLast 0x0100) ∧ decodeSel 0x6300 = some (.drainEmit 0x0200) ∧
    decodeSel 0x6108 = some (.drainLast 0x0000) ∧ decodeSel 0x7106 = some (.settleDone 0x0100)

/-- The bits of SEL are the registers, inputs and conditions that R78 places there (R78). For every state, bit 15 of SEL
is rst, bits 14:13 the encoding of state, bit 12 that of lphase, bits 11:10 hdr_cnt, bit 9 in_valid, bit 8 out_ready,
and bits 7 to 0 mmatch, chk_ok, rej_over, pay_last, drain_last, tick_end, latch_end, idle_end. -/
def Obligations.SelectorWordHoldsRegistersInputsAndConditions : Prop :=
  ∀ s : State,
    (sel s).getLsbD 15 = s.port.rst ∧
    (sel s).extractLsb' 13 2 = (match s.state with | .sm => 0b00#2 | .rh => 0b01#2 | .rp => 0b10#2 | .la => 0b11#2) ∧
    (sel s).extractLsb' 12 1 = (match s.lphase with | .drain => 0#1 | .settle => 1#1) ∧
    (sel s).extractLsb' 10 2 = s.hdr_cnt ∧
    (sel s).getLsbD 9 = s.port.inValid ∧ (sel s).getLsbD 8 = s.port.outReady ∧
    (sel s).getLsbD 7 = mmatch s ∧ (sel s).getLsbD 6 = chkOk s ∧ (sel s).getLsbD 5 = rejOver s ∧
    (sel s).getLsbD 4 = payLast s ∧ (sel s).getLsbD 3 = drainLast s ∧ (sel s).getLsbD 2 = tickEnd s ∧
    (sel s).getLsbD 1 = latchEnd s ∧ (sel s).getLsbD 0 = idleEnd s

/-- The eight conditions of a cycle hold exactly when the comparisons of R79 to R86 do (R79, R80, R81, R82, R83, R84, R85,
R86). mmatch: two valid bytes and slot 1, slot 0, in_data equal P_M0, P_M1, P_M2; chk_ok: in_data is hdr_hi ^ hdr_lo ^
P_K; rej_over: REJECT and 3(256 hi + lo + 1) > P_C; pay_last: cursor + 1 = plen; drain_last: didx + 1 = min(plen,
P_C), which is plen if plen fits; tick_end, latch_end, idle_end likewise, on naturals. -/
def Obligations.ConditionsCompareAsTheirRulesSay : Prop :=
  ∀ s : State,
    (mmatch s = true ↔ 2 ≤ s.mw_cnt.toNat ∧ s.mw.extractLsb' 8 8 = s.cfg.P_M0 ∧ s.mw.extractLsb' 0 8 = s.cfg.P_M1 ∧
      s.port.inData = s.cfg.P_M2) ∧
    (chkOk s = true ↔ s.port.inData = s.hdr_hi ^^^ s.hdr_lo ^^^ s.cfg.P_K) ∧
    (rejOver s = true ↔
      s.cfg.P_OVERSIZE = .reject ∧ 3 * (256 * s.hdr_hi.toNat + s.hdr_lo.toNat + 1) > s.cfg.P_C) ∧
    (payLast s = true ↔ s.cursor.toNat + 1 = s.plen.toNat) ∧
    (drainLast s = true ↔ s.didx.toNat + 1 = min s.plen.toNat s.cfg.P_C) ∧
    (s.plen.toNat ≤ s.cfg.P_C → (drainLast s = true ↔ s.didx.toNat + 1 = s.plen.toNat)) ∧
    (tickEnd s = true ↔ s.tick_cnt + 1 = s.cfg.P_TICK_CYCLES) ∧
    (latchEnd s = true ↔ s.latch_cnt + 1 = s.cfg.P_LATCH_TICKS) ∧
    (idleEnd s = true ↔ s.cfg.P_IDLE_TIMEOUT ≠ 0 ∧ s.idle_cnt + 1 = s.cfg.P_IDLE_TIMEOUT)

/-- A step of a legal build is the meaning of the operation decoded from SEL, then the clock edge (30_encoding.md R87,
00_scope.md R18). If the build is legal and the decoder answers i for SEL, then step answers what exec i answers, and
after a next state the edge moves the environment to the next cycle and counts it; a fault of exec is the step's, and
exec refuses no operation. The feed and the count are the model's own (log 1). -/
def Obligations.StepRunsTheSelectedOperation : Prop :=
  ∀ (s : State) (i : Instr), s.cfg.legal = true → decodeSel (sel s) = some i →
    (∀ t, exec i s = .next t → step s = .next { t with feed := t.feed.tail, cycle := t.cycle + 1 }) ∧
    (∀ f, exec i s = .fault f → step s = .fault f) ∧
    (∀ r, exec i s ≠ .refused r)

/-- A step is refused as an illegal build exactly when a parameter leaves its range (70_reset_and_hazards.md R195). step
answers the refusal illegalBuild iff not (3 <= P_C <= 196608, P_LATCH_TICKS >= 1, P_TICK_CYCLES >= 1). That the
refusal is the step's is the model's choice (log 11). -/
def Obligations.IllegalBuildIsRefused : Prop :=
  ∀ s : State, step s = .refused .illegalBuild ↔
    ¬(3 ≤ s.cfg.P_C ∧ s.cfg.P_C ≤ 196608 ∧ 1 ≤ s.cfg.P_LATCH_TICKS ∧ 1 ≤ s.cfg.P_TICK_CYCLES)

/-- withFetchWord makes any 16-bit word the next selector word of a legal build (30_encoding.md R78, 30_encoding.md R87).
For every state and word w, after withFetchWord the block forms SEL = w, its build is legal, and decodeTableWord reads
the operation the decoder reads from w. withFetchWord is the model's own (log 13). -/
def Obligations.PresentedWordIsTheNextOperation : Prop :=
  ∀ (s : State) (w : Sel),
    (s.withFetchWord 16 w.toNat).fetchWord = w ∧ (s.withFetchWord 16 w.toNat).cfg.legal = true ∧
      decodeTableWord 16 w.toNat = decodeSel w

/-- RESET gives every register its reset value, leaves the PixelBuffer, and is selected by rst alone (R190). For every
state RESET answers the state with all 13 registers at their reset values and everything else as it was; RESET is
selected iff rst = 1; and with rst = 1 neither handshake holds. -/
def Obligations.ResetWritesEveryRegister : Prop :=
  ∀ s : State,
    (∀ u, exec (.reset u) s = .next { s with
      state := .sm, lphase := .drain, mw := 0x000000, mw_cnt := 0, hdr_cnt := 0, hdr_hi := 0x00, hdr_lo := 0x00,
      plen := 0, cursor := 0, didx := 0, latch_cnt := 0, tick_cnt := 0, idle_cnt := 0 }) ∧
    ((∃ u, decodeSel s.fetchWord = some (.reset u)) ↔
      s.port.rst = true) ∧
    (s.port.rst = true → accIn s = false ∧ accOut s = false)

/-- From any register state one RESET edge gives s_0, and holding rst gives it again (R192). In a legal build with rst =
1, step answers the state whose registers are those of s_0 (State.boot), with the PixelBuffer and the record of the
ports as they were; if rst is 1 again in the next cycle, the step after it changes no register. -/
def Obligations.OneResetEdgeIsEnough : Prop :=
  ∀ s : State, s.cfg.legal = true → s.port.rst = true →
    ∃ t, step s = .next t ∧
      t = { State.boot s.cfg s.feed.tail with
        buf := s.buf, cycle := s.cycle + 1, accepted := s.accepted, emitted := s.emitted, raised := s.raised } ∧
      (t.port.rst = true → ∃ t', step t = .next t' ∧ t'.view = t.view)

/-- SEEK_IDLE writes no register and is selected in SM with no byte offered (R100). For every state SEEK_IDLE answers that
state; it is selected iff rst = 0, state = SM, in_valid = 0; then in_ready is 1. -/
def Obligations.SeekIdleWritesNothing : Prop :=
  ∀ s : State,
    (∀ u, exec (.seekIdle u) s = .next s) ∧
    ((∃ u, decodeSel s.fetchWord = some (.seekIdle u)) ↔
      s.port.rst = false ∧ s.state = .sm ∧ s.port.inValid = false) ∧
    (s.port.rst = false → s.state = .sm → inReady s = true)

/-- SEEK_SHIFT shifts the accepted byte into the window, counts it, and raises SyncLoss (R101). For every state SEEK_SHIFT
answers mw = {mw[15:8], mw[7:0], in_data}, mw_cnt = min(mw_cnt + 1, 3), the byte accepted, SyncLoss recorded, nothing
else changed; it is selected iff rst = 0, state = SM, in_valid = 1, mmatch = 0; with mw_cnt < 2 mmatch is 0. -/
def Obligations.SeekShiftPushesTheByteIntoTheWindow : Prop :=
  ∀ s : State,
    (∀ u, exec (.seekShift u) s = .next { s with
      mw := s.mw.extractLsb' 8 8 ++ s.mw.extractLsb' 0 8 ++ s.port.inData
      mw_cnt := BitVec.ofNat 2 (min (s.mw_cnt.toNat + 1) 3)
      accepted := (s.cycle, s.port.inData) :: s.accepted
      raised := (s.cycle, .syncLoss) :: s.raised }) ∧
    ((∃ u, decodeSel s.fetchWord = some (.seekShift u)) ↔
      s.port.rst = false ∧ s.state = .sm ∧ s.port.inValid = true ∧ mmatch s = false) ∧
    (s.mw_cnt.toNat < 2 → mmatch s = false)

/-- SEEK_MATCH clears the window and the counters and enters ReadingHeader (R102). For every state SEEK_MATCH answers mw =
0, mw_cnt = 0, hdr_cnt = 0, idle_cnt = 0, state = RH, the byte accepted, nothing else changed; it is selected iff rst
= 0, state = SM, in_valid = 1, mmatch = 1. -/
def Obligations.SeekMatchDiscardsTheWindowAndEntersHeader : Prop :=
  ∀ s : State,
    (∀ u, exec (.seekMatch u) s = .next { s with
      mw := 0x000000, mw_cnt := 0, hdr_cnt := 0, idle_cnt := 0, state := .rh
      accepted := (s.cycle, s.port.inData) :: s.accepted }) ∧
    ((∃ u, decodeSel s.fetchWord = some (.seekMatch u)) ↔
      s.port.rst = false ∧ s.state = .sm ∧ s.port.inValid = true ∧ mmatch s = true)

/-- HDR_WAIT counts an idle cycle if the timeout is enabled and writes nothing else (41_header.md R110, 00_scope.md R15,
00_scope.md R16). For every state HDR_WAIT answers idle_cnt + 1 (in its register width) if P_IDLE_TIMEOUT is not 0 and
the same state otherwise; it is selected iff rst = 0, state = RH, in_valid = 0, idle_end = 0; with the timeout at 0
idle_end is 0. That the sum is stored modulo 2 to the width is the model's deduction (log 7). -/
def Obligations.HdrWaitCountsTheIdleCycle : Prop :=
  ∀ s : State,
    (∀ u, exec (.hdrWait u) s = .next { s with
      idle_cnt := if s.cfg.P_IDLE_TIMEOUT = 0 then s.idle_cnt else (s.idle_cnt + 1) % 2 ^ idleWidth s.cfg }) ∧
    ((∃ u, decodeSel s.fetchWord = some (.hdrWait u)) ↔
      s.port.rst = false ∧ s.state = .rh ∧ s.port.inValid = false ∧ idleEnd s = false) ∧
    (s.cfg.P_IDLE_TIMEOUT = 0 → idleEnd s = false)

/-- HDR_HI stores the first header byte in hdr_hi (R111). For every state HDR_HI answers hdr_hi = in_data, hdr_cnt = 1,
idle_cnt = 0, the byte accepted, nothing else changed; it is selected iff rst = 0, state = RH, hdr_cnt = 0, in_valid =
1, whatever the byte. -/
def Obligations.HdrHiTakesTheFirstHeaderByte : Prop :=
  ∀ s : State,
    (∀ u, exec (.hdrHi u) s = .next { s with
      hdr_hi := s.port.inData, hdr_cnt := 1, idle_cnt := 0, accepted := (s.cycle, s.port.inData) :: s.accepted }) ∧
    ((∃ u, decodeSel s.fetchWord = some (.hdrHi u)) ↔
      s.port.rst = false ∧ s.state = .rh ∧ s.hdr_cnt = 0 ∧ s.port.inValid = true)

/-- HDR_LO stores the second header byte in hdr_lo (R112). For every state HDR_LO answers hdr_lo = in_data, hdr_cnt = 2,
idle_cnt = 0, the byte accepted, nothing else changed; it is selected iff rst = 0, state = RH, hdr_cnt = 1, in_valid =
1. -/
def Obligations.HdrLoTakesTheSecondHeaderByte : Prop :=
  ∀ s : State,
    (∀ u, exec (.hdrLo u) s = .next { s with
      hdr_lo := s.port.inData, hdr_cnt := 2, idle_cnt := 0, accepted := (s.cycle, s.port.inData) :: s.accepted }) ∧
    ((∃ u, decodeSel s.fetchWord = some (.hdrLo u)) ↔
      s.port.rst = false ∧ s.state = .rh ∧ s.hdr_cnt = 1 ∧ s.port.inValid = true)

/-- HDR_CHK_OK writes plen = 3 (pixelCount + 1), clears the cursor and enters ReadingPayload (R113). For every state
HDR_CHK_OK answers plen = 3 (256 hdr_hi + hdr_lo + 1), cursor = 0, hdr_cnt = 0, idle_cnt = 0, state = RP, the byte
accepted, nothing else changed; it is selected iff rst = 0, state = RH, hdr_cnt = 2, in_valid = 1, chk_ok = 1,
rej_over = 0. -/
def Obligations.HdrChkOkDerivesTheLengthAndEntersPayload : Prop :=
  ∀ s : State,
    (∀ u, exec (.hdrChkOk u) s = .next { s with
      plen := BitVec.ofNat 18 (3 * (256 * s.hdr_hi.toNat + s.hdr_lo.toNat + 1))
      cursor := 0, hdr_cnt := 0, idle_cnt := 0, state := .rp, accepted := (s.cycle, s.port.inData) :: s.accepted }) ∧
    ((∃ u, decodeSel s.fetchWord = some (.hdrChkOk u)) ↔
      s.port.rst = false ∧ s.state = .rh ∧ s.hdr_cnt = 2 ∧ s.port.inValid = true ∧ chkOk s = true ∧ rejOver s = false)

/-- HDR_CHK_BAD raises ChecksumMismatch and returns to SeekingMagic (R114). For every state HDR_CHK_BAD answers hdr_cnt =
0, idle_cnt = 0, state = SM, the byte accepted, ChecksumMismatch recorded, nothing else changed (hdr_hi, hdr_lo, plen,
cursor, mw kept); it is selected iff rst = 0, state = RH, hdr_cnt = 2, in_valid = 1, chk_ok = 0, whether or not the
length fits. -/
def Obligations.HdrChkBadDiscardsTheHeader : Prop :=
  ∀ s : State,
    (∀ u, exec (.hdrChkBad u) s = .next { s with
      hdr_cnt := 0, idle_cnt := 0, state := .sm, accepted := (s.cycle, s.port.inData) :: s.accepted
      raised := (s.cycle, .checksumMismatch) :: s.raised }) ∧
    ((∃ u, decodeSel s.fetchWord = some (.hdrChkBad u)) ↔
      s.port.rst = false ∧ s.state = .rh ∧ s.hdr_cnt = 2 ∧ s.port.inValid = true ∧ chkOk s = false)

/-- HDR_OVERSIZE raises OversizedFrame and returns to SeekingMagic, only under REJECT (R115). For every state HDR_OVERSIZE
answers hdr_cnt = 0, idle_cnt = 0, state = SM, the byte accepted, OversizedFrame recorded, nothing else changed; it is
selected iff rst = 0, state = RH, hdr_cnt = 2, in_valid = 1, chk_ok = 1, rej_over = 1; rej_over is 1 only if
P_OVERSIZE = REJECT. -/
def Obligations.HdrOversizeRejectsTheFrame : Prop :=
  ∀ s : State,
    (∀ u, exec (.hdrOversize u) s = .next { s with
      hdr_cnt := 0, idle_cnt := 0, state := .sm, accepted := (s.cycle, s.port.inData) :: s.accepted
      raised := (s.cycle, .oversizedFrame) :: s.raised }) ∧
    ((∃ u, decodeSel s.fetchWord = some (.hdrOversize u)) ↔
      s.port.rst = false ∧ s.state = .rh ∧ s.hdr_cnt = 2 ∧ s.port.inValid = true ∧ chkOk s = true ∧ rejOver s = true) ∧
    (rejOver s = true → s.cfg.P_OVERSIZE = .reject)

/-- HDR_RSVD returns from hdr_cnt = 3 to SeekingMagic without an error class (R116). For every state HDR_RSVD answers
hdr_cnt = 0, idle_cnt = 0, state = SM, the byte accepted, no error recorded, nothing else changed; it is selected iff
rst = 0, state = RH, hdr_cnt = 3, in_valid = 1; no state that meets the invariants selects it. -/
def Obligations.HdrRsvdRecoversFromTheUnusedCount : Prop :=
  ∀ s : State,
    (∀ u, exec (.hdrRsvd u) s = .next { s with
      hdr_cnt := 0, idle_cnt := 0, state := .sm, accepted := (s.cycle, s.port.inData) :: s.accepted }) ∧
    ((∃ u, decodeSel s.fetchWord = some (.hdrRsvd u)) ↔
      s.port.rst = false ∧ s.state = .rh ∧ s.hdr_cnt = 3 ∧ s.port.inValid = true) ∧
    (Inv s → ¬∃ u, decodeSel s.fetchWord = some (.hdrRsvd u))

/-- HDR_TIMEOUT raises StalledTransport and returns to SeekingMagic (R117). For every state HDR_TIMEOUT answers hdr_cnt =
0, idle_cnt = 0, state = SM, StalledTransport recorded, nothing else changed; it is selected iff rst = 0, state = RH,
in_valid = 0, idle_end = 1; idle_end is 1 only if P_IDLE_TIMEOUT is not 0. -/
def Obligations.HdrTimeoutReturnsToSeeking : Prop :=
  ∀ s : State,
    (∀ u, exec (.hdrTimeout u) s = .next { s with
      hdr_cnt := 0, idle_cnt := 0, state := .sm
      raised := (s.cycle, .stalledTransport) :: s.raised }) ∧
    ((∃ u, decodeSel s.fetchWord = some (.hdrTimeout u)) ↔
      s.port.rst = false ∧ s.state = .rh ∧ s.port.inValid = false ∧ idleEnd s = true) ∧
    (idleEnd s = true → s.cfg.P_IDLE_TIMEOUT ≠ 0)

/-- PAY_WAIT counts an idle cycle if the timeout is enabled and writes nothing else (42_payload.md R130, 00_scope.md R15,
00_scope.md R16). For every state PAY_WAIT answers idle_cnt + 1 (in its register width) if P_IDLE_TIMEOUT is not 0 and
the same state otherwise; it is selected iff rst = 0, state = RP, in_valid = 0, idle_end = 0; with the timeout at 0
idle_end is 0, so the block waits in RP for as long as no byte comes. That the sum is stored modulo 2 to the width is
the model's deduction (log 7). -/
def Obligations.PayWaitCountsTheIdleCycle : Prop :=
  ∀ s : State,
    (∀ u, exec (.payWait u) s = .next { s with
      idle_cnt := if s.cfg.P_IDLE_TIMEOUT = 0 then s.idle_cnt else (s.idle_cnt + 1) % 2 ^ idleWidth s.cfg }) ∧
    ((∃ u, decodeSel s.fetchWord = some (.payWait u)) ↔
      s.port.rst = false ∧ s.state = .rp ∧ s.port.inValid = false ∧ idleEnd s = false) ∧
    (s.cfg.P_IDLE_TIMEOUT = 0 → idleEnd s = false)

/-- PAY_TIMEOUT raises StalledTransport, clears the cursor and returns to SeekingMagic (42_payload.md R131,
60_exceptions.md R175). For every state PAY_TIMEOUT answers cursor = 0, hdr_cnt = 0, idle_cnt = 0, state = SM,
StalledTransport recorded, nothing else changed (buf and plen kept); it is selected iff rst = 0, state = RP, in_valid
= 0, idle_end = 1. hdr_cnt is written as R175 says of every recovery, though R131 does not list it (log 9). -/
def Obligations.PayTimeoutDropsThePartialPayload : Prop :=
  ∀ s : State,
    (∀ u, exec (.payTimeout u) s = .next { s with
      cursor := 0, hdr_cnt := 0, idle_cnt := 0, state := .sm
      raised := (s.cycle, .stalledTransport) :: s.raised }) ∧
    ((∃ u, decodeSel s.fetchWord = some (.payTimeout u)) ↔
      s.port.rst = false ∧ s.state = .rp ∧ s.port.inValid = false ∧ idleEnd s = true)

/-- PAY_STORE stores the byte at the cursor if it fits and advances the cursor (R132). For every state PAY_STORE answers a
next state with cursor + 1, idle_cnt = 0 and the byte accepted, no other register changed; if cursor < P_C the buffer
holds in_data at the cursor and every other index reads as before, and if not every index reads as before; it is
selected iff rst = 0, state = RP, in_valid = 1, pay_last = 0. -/
def Obligations.PayStoreWritesTheByteAtTheCursor : Prop :=
  ∀ s : State,
    (∀ u, ∃ t, exec (.payStore u) s = .next t ∧
      { t with buf := s.buf } = { s with
        cursor := s.cursor + 1, idle_cnt := 0
        accepted := (s.cycle, s.port.inData) :: s.accepted } ∧
      (s.cursor.toNat < s.cfg.P_C → Memory.read t.buf s.cursor.toNat = some s.port.inData) ∧
      (∀ a, (s.cursor.toNat < s.cfg.P_C → a ≠ s.cursor.toNat) → Memory.read t.buf a = Memory.read s.buf a)) ∧
    ((∃ u, decodeSel s.fetchWord = some (.payStore u)) ↔
      s.port.rst = false ∧ s.state = .rp ∧ s.port.inValid = true ∧ payLast s = false)

/-- PAY_LAST stores the last payload byte and starts the drain (R133). For every state PAY_LAST answers a next state with
cursor + 1, idle_cnt = 0, didx = 0, lphase = DRAIN, state = LA and the byte accepted, no other register changed; the
buffer is written as by PAY_STORE; it is selected iff rst = 0, state = RP, in_valid = 1, pay_last = 1, and then cursor
+ 1 is plen. -/
def Obligations.PayLastWritesTheLastByteAndEntersLatching : Prop :=
  ∀ s : State,
    (∀ u, ∃ t, exec (.payLast u) s = .next t ∧
      { t with buf := s.buf } = { s with
        cursor := s.cursor + 1, idle_cnt := 0, didx := 0, lphase := .drain, state := .la
        accepted := (s.cycle, s.port.inData) :: s.accepted } ∧
      (s.cursor.toNat < s.cfg.P_C → Memory.read t.buf s.cursor.toNat = some s.port.inData) ∧
      (∀ a, (s.cursor.toNat < s.cfg.P_C → a ≠ s.cursor.toNat) → Memory.read t.buf a = Memory.read s.buf a)) ∧
    ((∃ u, decodeSel s.fetchWord = some (.payLast u)) ↔
      s.port.rst = false ∧ s.state = .rp ∧ s.port.inValid = true ∧ payLast s = true) ∧
    (payLast s = true → s.cursor + 1 = s.plen)

/-- DRAIN_WAIT writes no register and keeps offering buf[didx] (R141). For every state DRAIN_WAIT answers that state; it
is selected iff rst = 0, state = LA, lphase = DRAIN, out_ready = 0; and then in_ready = 0, out_valid = 1 and out_data
is buf[didx] (for a didx below P_C). -/
def Obligations.DrainWaitHoldsTheByte : Prop :=
  ∀ s : State,
    (∀ u, exec (.drainWait u) s = .next s) ∧
    ((∃ u, decodeSel s.fetchWord = some (.drainWait u)) ↔
      s.port.rst = false ∧ s.state = .la ∧ s.lphase = .drain ∧ s.port.outReady = false) ∧
    (s.port.rst = false → s.state = .la → s.lphase = .drain → s.didx.toNat < s.cfg.P_C →
      inReady s = false ∧ outValid s = true ∧ outData s = some (s.bufAt s.didx.toNat))

/-- DRAIN_EMIT emits buf[didx] and advances didx (R142). For every state with didx < P_C, DRAIN_EMIT answers didx + 1 and
the byte buf[didx] emitted, nothing else changed; it is selected iff rst = 0, state = LA, lphase = DRAIN, out_ready =
1, drain_last = 0. -/
def Obligations.DrainEmitSendsTheByteAtTheIndex : Prop :=
  ∀ s : State,
    (s.didx.toNat < s.cfg.P_C → ∀ u, exec (.drainEmit u) s = .next { s with
      didx := s.didx + 1, emitted := (s.cycle, s.bufAt s.didx.toNat) :: s.emitted }) ∧
    ((∃ u, decodeSel s.fetchWord = some (.drainEmit u)) ↔
      s.port.rst = false ∧ s.state = .la ∧ s.lphase = .drain ∧ s.port.outReady = true ∧ drainLast s = false)

/-- DRAIN_LAST emits the last byte and starts the settle at zero (R143). For every state with didx < P_C, DRAIN_LAST
answers didx = 0, lphase = SETTLE, tick_cnt = 0, latch_cnt = 0 and the byte buf[didx] emitted, nothing else changed;
it is selected iff rst = 0, state = LA, lphase = DRAIN, out_ready = 1, drain_last = 1; for a plen of exactly P_C
drain_last is the last index of the buffer. -/
def Obligations.DrainLastSendsTheByteAndStartsTheSettle : Prop :=
  ∀ s : State,
    (s.didx.toNat < s.cfg.P_C → ∀ u, exec (.drainLast u) s = .next { s with
      didx := 0, lphase := .settle, tick_cnt := 0, latch_cnt := 0
      emitted := (s.cycle, s.bufAt s.didx.toNat) :: s.emitted }) ∧
    ((∃ u, decodeSel s.fetchWord = some (.drainLast u)) ↔
      s.port.rst = false ∧ s.state = .la ∧ s.lphase = .drain ∧ s.port.outReady = true ∧ drainLast s = true) ∧
    (s.plen.toNat = s.cfg.P_C → (drainLast s = true ↔ s.didx.toNat + 1 = s.cfg.P_C))

/-- SETTLE_CYCLE counts one cycle of the tick (43_latch.md R144, 00_scope.md R15, 00_scope.md R16). For every state
SETTLE_CYCLE answers tick_cnt + 1 (in its register width), nothing else changed; it is selected iff rst = 0, state =
LA, lphase = SETTLE, tick_end = 0; with P_TICK_CYCLES = 1 no state that meets the invariants selects it. That the sum
is stored modulo 2 to the width is the model's deduction (log 7). -/
def Obligations.SettleCycleCountsTheCycle : Prop :=
  ∀ s : State,
    (∀ u, exec (.settleCycle u) s = .next { s with tick_cnt := (s.tick_cnt + 1) % 2 ^ tickWidth s.cfg }) ∧
    ((∃ u, decodeSel s.fetchWord = some (.settleCycle u)) ↔
      s.port.rst = false ∧ s.state = .la ∧ s.lphase = .settle ∧ tickEnd s = false) ∧
    (Inv s → s.cfg.P_TICK_CYCLES = 1 → ¬∃ u, decodeSel s.fetchWord = some (.settleCycle u))

/-- SETTLE_TICK starts the next tick and counts the one that ended (43_latch.md R145, 00_scope.md R15, 00_scope.md R16).
For every state SETTLE_TICK answers tick_cnt = 0 and latch_cnt + 1 (in its register width), nothing else changed; it
is selected iff rst = 0, state = LA, lphase = SETTLE, tick_end = 1, latch_end = 0; with P_LATCH_TICKS = 1 no state
that meets the invariants selects it. That the sum is stored modulo 2 to the width is the model's deduction (log 7). -/
def Obligations.SettleTickCountsTheTick : Prop :=
  ∀ s : State,
    (∀ u, exec (.settleTick u) s = .next { s with
      tick_cnt := 0, latch_cnt := (s.latch_cnt + 1) % 2 ^ latchWidth s.cfg }) ∧
    ((∃ u, decodeSel s.fetchWord = some (.settleTick u)) ↔
      s.port.rst = false ∧ s.state = .la ∧ s.lphase = .settle ∧ tickEnd s = true ∧ latchEnd s = false) ∧
    (Inv s → s.cfg.P_LATCH_TICKS = 1 → ¬∃ u, decodeSel s.fetchWord = some (.settleTick u))

/-- SETTLE_DONE clears the settle counters and the cursor and returns to SeekingMagic (R146). For every state SETTLE_DONE
answers tick_cnt = 0, latch_cnt = 0, cursor = 0, lphase = DRAIN, state = SM, nothing else changed; it is selected iff
rst = 0, state = LA, lphase = SETTLE, tick_end = 1, latch_end = 1; in_ready is still 0 in that cycle, and in a state
that meets the invariants mw and mw_cnt are already 0. -/
def Obligations.SettleDoneRearmsTheSynchronizer : Prop :=
  ∀ s : State,
    (∀ u, exec (.settleDone u) s = .next { s with
      tick_cnt := 0, latch_cnt := 0, cursor := 0, lphase := .drain, state := .sm }) ∧
    ((∃ u, decodeSel s.fetchWord = some (.settleDone u)) ↔
      s.port.rst = false ∧ s.state = .la ∧ s.lphase = .settle ∧ tickEnd s = true ∧ latchEnd s = true) ∧
    (s.state = .la → inReady s = false ∧ (Inv s → s.mw = 0x000000 ∧ s.mw_cnt = 0))

/-- A drain operation at an index the PixelBuffer does not have stops with the fault readOutsideBuffer (20_memory.md R50,
20_memory.md R52). If didx is at or above P_C, DRAIN_EMIT and DRAIN_LAST answer the fault readOutsideBuffer. The stop
is the model's (log 6); no state that meets the invariants reaches it. -/
def Obligations.DrainOutsideTheBufferFaults : Prop :=
  ∀ (s : State) (u : Sel), s.cfg.P_C ≤ s.didx.toNat →
    exec (.drainEmit u) s = .fault .readOutsideBuffer ∧ exec (.drainLast u) s = .fault .readOutsideBuffer

/-- in_ready, out_valid and out_data are what R23, R24 and R140 say (R23, R24, R140). in_ready iff rst = 0 and state is
not LA; out_valid iff rst = 0, state = LA and lphase = DRAIN; out_data is buf[didx] when out_valid (for a didx below
P_C) and 0x00 at every other time. -/
def Obligations.OutputsAreFunctionsOfStatePhaseAndReset : Prop :=
  ∀ s : State,
    (inReady s = true ↔ s.port.rst = false ∧ s.state ≠ .la) ∧
    (outValid s = true ↔ s.port.rst = false ∧ s.state = .la ∧ s.lphase = .drain) ∧
    (outValid s = true → s.didx.toNat < s.cfg.P_C → outData s = some (s.bufAt s.didx.toNat)) ∧
    (outValid s = false → outData s = some 0x00)

/-- No output depends on in_valid, in_data or out_ready (R29). Two states with the same registers, PixelBuffer and build,
and the same level of rst, have the same in_ready, out_valid, out_data, state_o and lphase_o, whatever the other
inputs. -/
def Obligations.OutputsIgnoreTheInputHandshakes : Prop :=
  ∀ s t : State, s.view = t.view → s.port.rst = t.port.rst →
    inReady s = inReady t ∧ outValid s = outValid t ∧ outData s = outData t ∧ stateO s = stateO t ∧
      lphaseO s = lphaseO t

/-- A step accepts in_data exactly on the inbound handshake and emits out_data exactly on the outbound one (10_state.md
R28, 30_encoding.md R87). If step answers t, then the inbound record gains (cycle, in_data) iff in_valid and in_ready,
and is unchanged otherwise; the outbound record gains (cycle, out_data) iff out_valid and out_ready, and is unchanged
otherwise; and not both in one cycle. The records are the model's (log 8). -/
def Obligations.EventsAreExactlyTheHandshakes : Prop :=
  ∀ s t : State, step s = .next t →
    t.accepted = (if accIn s = true then (s.cycle, s.port.inData) :: s.accepted else s.accepted) ∧
    (accOut s = true → ∃ b, outData s = some b ∧ t.emitted = (s.cycle, b) :: s.emitted) ∧
    (accOut s = false → t.emitted = s.emitted) ∧
    ¬(accIn s = true ∧ accOut s = true)

/-- MemRead after MemWrite gives the written byte, and every other index what it gave before (20_memory.md R51,
20_memory.md R52, 20_memory.md R50). For every state, indices i below P_C and j, and byte v: after MemWrite(i, v),
MemRead(j) is v if j = i and otherwise what MemRead(j) was; an index at or above P_C has no byte; MemWrite writes no
register. -/
def Obligations.BufferReadsWhatWasLastWritten : Prop :=
  ∀ (s : State) (i j : Nat) (v : Byte), i < s.cfg.P_C →
    (s.memWrite i v).memRead j = (if j = i then some v else s.memRead j) ∧
    (s.cfg.P_C ≤ j → s.memRead j = none) ∧
    { s.memWrite i v with buf := s.buf } = s

/-- Every step keeps the PixelBuffer canonical and within P_C, and writes it only for a byte accepted in ReadingPayload
(20_memory.md R50, 20_memory.md R58, 20_memory.md R59). If the buffer is in canonical form with every index below P_C
and step answers t, then so is t's; and if t's buffer differs, the state was RP, a byte was accepted and the cursor
was below P_C. The canonical form is the model's (log 5). -/
def Obligations.StepKeepsTheBufferCanonicalAndWritesOnlyPayload : Prop :=
  ∀ s t : State, Memory.wf s.buf → Memory.within s.buf s.cfg.P_C → step s = .next t →
    Memory.wf t.buf ∧ Memory.within t.buf t.cfg.P_C ∧
    (t.buf ≠ s.buf → s.state = .rp ∧ accIn s = true ∧ s.cursor.toNat < s.cfg.P_C)

/-- A register, or the PixelBuffer, changes only in the operations its rule lists as its writers (10_state.md section 2,
10_state.md R44, 10_state.md R46, 20_memory.md R50, 60_exceptions.md R175). If exec i answers t, then each of state,
lphase, mw, mw_cnt, hdr_cnt, hdr_hi, hdr_lo, plen, cursor, didx, latch_cnt, tick_cnt, idle_cnt and buf is unchanged or
i is one of the operations that R31 to R41 and R44 (R50 for buf) list as writing it, with PAY_TIMEOUT among those of
hdr_cnt as R175 has it (log 9); the build, and the model's feed and cycle count (log 1), are unchanged by every
operation. -/
def Obligations.EachRegisterHasOnlyItsListedWriters : Prop :=
  ∀ (i : Instr) (s t : State), exec i s = .next t →
    (t.state = s.state ∨ (∃ u, i = .seekMatch u) ∨ (∃ u, i = .hdrChkOk u) ∨ (∃ u, i = .hdrChkBad u) ∨
      (∃ u, i = .hdrOversize u) ∨ (∃ u, i = .hdrRsvd u) ∨ (∃ u, i = .hdrTimeout u) ∨ (∃ u, i = .payLast u) ∨
      (∃ u, i = .payTimeout u) ∨ (∃ u, i = .settleDone u) ∨ (∃ u, i = .reset u)) ∧
    (t.lphase = s.lphase ∨ (∃ u, i = .payLast u) ∨ (∃ u, i = .drainLast u) ∨ (∃ u, i = .settleDone u) ∨
      (∃ u, i = .reset u)) ∧
    (t.mw = s.mw ∨ (∃ u, i = .seekShift u) ∨ (∃ u, i = .seekMatch u) ∨ (∃ u, i = .reset u)) ∧
    (t.mw_cnt = s.mw_cnt ∨ (∃ u, i = .seekShift u) ∨ (∃ u, i = .seekMatch u) ∨ (∃ u, i = .reset u)) ∧
    (t.hdr_cnt = s.hdr_cnt ∨ (∃ u, i = .hdrHi u) ∨ (∃ u, i = .hdrLo u) ∨ (∃ u, i = .hdrChkOk u) ∨
      (∃ u, i = .hdrChkBad u) ∨ (∃ u, i = .hdrOversize u) ∨ (∃ u, i = .hdrRsvd u) ∨ (∃ u, i = .hdrTimeout u) ∨
      (∃ u, i = .payTimeout u) ∨ (∃ u, i = .seekMatch u) ∨ (∃ u, i = .reset u)) ∧
    (t.hdr_hi = s.hdr_hi ∨ (∃ u, i = .hdrHi u) ∨ (∃ u, i = .reset u)) ∧
    (t.hdr_lo = s.hdr_lo ∨ (∃ u, i = .hdrLo u) ∨ (∃ u, i = .reset u)) ∧
    (t.plen = s.plen ∨ (∃ u, i = .hdrChkOk u) ∨ (∃ u, i = .reset u)) ∧
    (t.cursor = s.cursor ∨ (∃ u, i = .hdrChkOk u) ∨ (∃ u, i = .payStore u) ∨ (∃ u, i = .payLast u) ∨
      (∃ u, i = .settleDone u) ∨ (∃ u, i = .payTimeout u) ∨ (∃ u, i = .reset u)) ∧
    (t.didx = s.didx ∨ (∃ u, i = .payLast u) ∨ (∃ u, i = .drainEmit u) ∨ (∃ u, i = .drainLast u) ∨
      (∃ u, i = .reset u)) ∧
    (t.latch_cnt = s.latch_cnt ∨ (∃ u, i = .drainLast u) ∨ (∃ u, i = .settleTick u) ∨ (∃ u, i = .settleDone u) ∨
      (∃ u, i = .reset u)) ∧
    (t.tick_cnt = s.tick_cnt ∨ (∃ u, i = .drainLast u) ∨ (∃ u, i = .settleCycle u) ∨ (∃ u, i = .settleTick u) ∨
      (∃ u, i = .settleDone u) ∨ (∃ u, i = .reset u)) ∧
    (t.idle_cnt = s.idle_cnt ∨ (∃ u, i = .hdrWait u) ∨ (∃ u, i = .payWait u) ∨ (∃ u, i = .hdrHi u) ∨
      (∃ u, i = .hdrLo u) ∨ (∃ u, i = .hdrChkOk u) ∨ (∃ u, i = .hdrChkBad u) ∨ (∃ u, i = .hdrOversize u) ∨
      (∃ u, i = .hdrRsvd u) ∨ (∃ u, i = .hdrTimeout u) ∨ (∃ u, i = .payStore u) ∨ (∃ u, i = .payLast u) ∨
      (∃ u, i = .payTimeout u) ∨ (∃ u, i = .seekMatch u) ∨ (∃ u, i = .reset u)) ∧
    (t.buf = s.buf ∨ (∃ u, i = .payStore u) ∨ (∃ u, i = .payLast u)) ∧
    t.cfg = s.cfg ∧ t.feed = s.feed ∧ t.cycle = s.cycle

/-- INV1 to INV10 hold of s_0 of every legal build, State.reset among them (10_state.md R43, 70_reset_and_hazards.md
R190). For every legal build and every feed the state State.boot meets the invariants, and State.reset does. The build
of State.reset is log 3 and log 4; the clauses on the buffer's form and on the records are log 5 and log 8. -/
def Obligations.InvariantsHoldAtReset : Prop :=
  (∀ (c : Params) (feed : List PortIn), c.legal = true → Inv (State.boot c feed)) ∧ Inv State.reset

/-- Every step from a state that meets INV1 to INV10 gives a state that meets them (10_state.md R43, 00_scope.md R15). For
every state s that meets the invariants, if step answers t then t meets them; and under them no counter exceeds its
register width. INV1 to INV10 are R43's. The model's own are the canonical form and bound of the buffer (log 5) and
what the records of the ports hold, INV10 in RP among it (log 8). -/
def Obligations.StepKeepsTheInvariants : Prop :=
  ∀ s : State, Inv s →
    (∀ t, step s = .next t → Inv t) ∧
    s.tick_cnt < 2 ^ tickWidth s.cfg ∧ s.latch_cnt < 2 ^ latchWidth s.cfg ∧ s.idle_cnt < 2 ^ idleWidth s.cfg

/-- From every state that meets the invariants the machine steps: no fault, no refusal (30_encoding.md R89,
60_exceptions.md R170, 10_state.md R43). For every state that meets the invariants there is a next state, and it meets
them; so for every n the machine runs n cycles without a fault or a refusal, whatever its ports carry. The clauses of
the invariants that are the model's own are log 5 and log 8. -/
def Obligations.InvariantStatesAlwaysStep : Prop :=
  ∀ s : State, Inv s →
    (∃ t, step s = .next t ∧ Inv t) ∧ ∀ n, ∃ t : State, Sys2Proof.core.run n s = .next t ∧ Inv t

/-- In a state that meets the invariants the counter selected to count goes up by one without wrapping (00_scope.md R15,
10_state.md R40, 10_state.md R41, 10_state.md R43, 10_state.md R44). If the invariants hold and step answers t: when
tick_cnt, latch_cnt, idle_cnt, cursor or didx is the register its operation counts up, its new value is the old one
plus 1 as a natural number. -/
def Obligations.CountersCountWithoutWrapping : Prop :=
  ∀ s t : State, Inv s → step s = .next t →
    ((∃ u, decodeSel s.fetchWord = some (.settleCycle u)) → t.tick_cnt = s.tick_cnt + 1) ∧
    ((∃ u, decodeSel s.fetchWord = some (.settleTick u)) → t.latch_cnt = s.latch_cnt + 1) ∧
    ((∃ u, decodeSel s.fetchWord = some (.hdrWait u) ∨ decodeSel s.fetchWord = some (.payWait u)) →
      s.cfg.P_IDLE_TIMEOUT ≠ 0 → t.idle_cnt = s.idle_cnt + 1) ∧
    ((∃ u, decodeSel s.fetchWord = some (.payStore u) ∨ decodeSel s.fetchWord = some (.payLast u)) →
      t.cursor.toNat = s.cursor.toNat + 1) ∧
    ((∃ u, decodeSel s.fetchWord = some (.drainEmit u)) → t.didx.toNat = s.didx.toNat + 1)

/-- Every recovery that can occur returns to SeekingMagic with the counters cleared, an empty window, and the rest kept
(60_exceptions.md R175, 60_exceptions.md R179). In a state that meets the invariants, if the operation selected is
HDR_CHK_BAD, HDR_OVERSIZE, HDR_TIMEOUT or PAY_TIMEOUT (HDR_RSVD is in no such state), then exec answers a next state
with state = SM, hdr_cnt = 0, idle_cnt = 0, cursor = 0, mw_cnt = 0, mw = 0, and hdr_hi, hdr_lo, plen, buf and the
emitted bytes unchanged. -/
def Obligations.RecoveryIsPreciseAndLeavesAnEmptyWindow : Prop :=
  ∀ (s : State) (i : Instr), Inv s → decodeSel s.fetchWord = some i →
    (∃ u, i = .hdrChkBad u ∨ i = .hdrOversize u ∨ i = .hdrTimeout u ∨ i = .payTimeout u) →
    ∃ t, exec i s = .next t ∧ t.state = .sm ∧ t.hdr_cnt = 0 ∧ t.idle_cnt = 0 ∧ t.cursor = 0 ∧ t.mw_cnt = 0 ∧
      t.mw = 0x000000 ∧ t.hdr_hi = s.hdr_hi ∧ t.hdr_lo = s.hdr_lo ∧ t.plen = s.plen ∧ t.buf = s.buf ∧
      t.emitted = s.emitted

/-- Each error class is raised by the operations R170 lists, at most one in a cycle, and by no other (60_exceptions.md
R170, 60_exceptions.md R178). If exec i answers t, then the record of errors gains (cycle, class) for SEEK_SHIFT
(SyncLoss), HDR_CHK_BAD (ChecksumMismatch), HDR_OVERSIZE (OversizedFrame), HDR_TIMEOUT and PAY_TIMEOUT
(StalledTransport), and is unchanged for every other operation; the classes have the codes 0 to 3. The record is the
model's (log 8). -/
def Obligations.ErrorClassesAreRaisedByTheirOperationsOnly : Prop :=
  (∀ (i : Instr) (s t : State), exec i s = .next t →
    t.raised = match i with
      | .seekShift _ => (s.cycle, .syncLoss) :: s.raised
      | .hdrChkBad _ => (s.cycle, .checksumMismatch) :: s.raised
      | .hdrOversize _ => (s.cycle, .oversizedFrame) :: s.raised
      | .hdrTimeout _ => (s.cycle, .stalledTransport) :: s.raised
      | .payTimeout _ => (s.cycle, .stalledTransport) :: s.raised
      | _ => s.raised) ∧
    ErrorClass.syncLoss.code = 0 ∧ ErrorClass.checksumMismatch.code = 1 ∧ ErrorClass.oversizedFrame.code = 2 ∧
    ErrorClass.stalledTransport.code = 3

/-- ProtocolState moves only along the transitions of R88, and with CAP and no timeout only along the source's table
(30_encoding.md R88, 60_exceptions.md R178, 90_conflicts.md C8). If step answers t with rst = 0 and the state changes,
then it goes SM to RH on a match, RH to RP on a valid header, RH to SM on a bad checksum, an oversized header, hdr_cnt
= 3 or a timeout, RP to LA on the last payload byte, RP to SM on a timeout, or LA to SM at the end of the settle; with
P_OVERSIZE = CAP and P_IDLE_TIMEOUT = 0 no oversize or timeout exit is taken. -/
def Obligations.StateMachineHasOnlyTheListedTransitions : Prop :=
  ∀ s t : State, step s = .next t → s.port.rst = false → t.state ≠ s.state →
    (s.state = .sm ∧ t.state = .rh ∧ accIn s = true ∧ mmatch s = true) ∨
    (s.state = .rh ∧ t.state = .rp ∧ accIn s = true ∧ s.hdr_cnt = 2 ∧ chkOk s = true ∧ rejOver s = false) ∨
    (s.state = .rh ∧ t.state = .sm ∧ accIn s = true ∧ s.hdr_cnt = 2 ∧ chkOk s = false) ∨
    (s.state = .rh ∧ t.state = .sm ∧ accIn s = true ∧ s.hdr_cnt = 2 ∧ chkOk s = true ∧ rejOver s = true ∧
      s.cfg.P_OVERSIZE ≠ .cap) ∨
    (s.state = .rh ∧ t.state = .sm ∧ accIn s = true ∧ s.hdr_cnt = 3) ∨
    ((s.state = .rh ∨ s.state = .rp) ∧ t.state = .sm ∧ accIn s = false ∧ idleEnd s = true ∧
      s.cfg.P_IDLE_TIMEOUT ≠ 0) ∨
    (s.state = .rp ∧ t.state = .la ∧ accIn s = true ∧ payLast s = true) ∨
    (s.state = .la ∧ t.state = .sm ∧ s.lphase = .settle ∧ tickEnd s = true ∧ latchEnd s = true)

/-- A step does not depend on in_data in a cycle in which no byte is accepted (10_state.md R22, 10_state.md R28). If the
feed gives this cycle's ports and no byte is accepted in it, then replacing in_data by any byte leaves the step's
answer the same, whatever it is. -/
def Obligations.DataNotAcceptedIsNeverRead : Prop :=
  ∀ (s : State) (p : PortIn) (l : List PortIn) (b : Byte), s.feed = p :: l → accIn s = false →
    step { s with feed := { p with inData := b } :: l } = step s

/-- The registers after a step depend on the registers, the PixelBuffer, the build and this cycle's ports only
(10_state.md R42, 60_exceptions.md R176, 20_memory.md R61). Two states with the same registers, PixelBuffer and build,
and the same port levels in this cycle, step to states with the same registers, PixelBuffer and build: no error label,
no earlier event and no later input takes part. -/
def Obligations.NextRegistersDependOnRegistersAndPortsOnly : Prop :=
  ∀ s s' t : State, s.view = s'.view → s.port = s'.port → step s = .next t →
    ∃ t', step s' = .next t' ∧ t'.view = t.view

/-- In Latching no byte is accepted, in the settle none is emitted, and only the settle's end or rst leaves it
(43_latch.md R148, 43_latch.md R150). If the state is LA and step answers t, then in_ready is 0 and no byte is
accepted; in the settle out_valid is 0 and none is emitted; and t is not in LA only if rst = 1 or the cycle was the
last of the last tick. -/
def Obligations.LatchingAcceptsNothingAndSettlingEmitsNothing : Prop :=
  ∀ s t : State, s.state = .la → step s = .next t →
    inReady s = false ∧ t.accepted = s.accepted ∧
    (s.lphase = .settle → outValid s = false ∧ t.emitted = s.emitted) ∧
    (t.state ≠ .la → s.port.rst = true ∨ (s.lphase = .settle ∧ tickEnd s = true ∧ latchEnd s = true))

/-- Once out_valid is 1 it stays 1 with the same out_data until the byte is emitted (43_latch.md R149, 43_latch.md R141).
If out_valid is 1, out_ready is 0 and step answers t, and rst is 0 in the next cycle too, then in that cycle out_valid
is 1, out_data is the same, and nothing was emitted. -/
def Obligations.OfferedByteIsHeldUntilTheSinkTakesIt : Prop :=
  ∀ s t : State, outValid s = true → s.port.outReady = false → step s = .next t → t.port.rst = false →
    outValid t = true ∧ outData t = outData s ∧ t.emitted = s.emitted

/-- The settle lasts exactly P_LATCH_TICKS × P_TICK_CYCLES cycles (43_latch.md R147). From a state that meets the
invariants at the start of the settle (tick_cnt = latch_cnt = 0), if rst is 0 for N = P_LATCH_TICKS × P_TICK_CYCLES
cycles then before each of them the block is in the settle and after them it is in SM; nothing is accepted or emitted
meanwhile, whatever the other inputs. -/
def Obligations.SettleLastsExactlyItsTicks : Prop :=
  ∀ s : State, Inv s → s.state = .la → s.lphase = .settle → s.tick_cnt = 0 → s.latch_cnt = 0 →
    (∀ k, k < s.cfg.P_LATCH_TICKS * s.cfg.P_TICK_CYCLES → (s.portAt k).rst = false) →
    (∀ k, k < s.cfg.P_LATCH_TICKS * s.cfg.P_TICK_CYCLES →
      ∃ t : State, Sys2Proof.core.run k s = .next t ∧ t.state = .la ∧ t.lphase = .settle) ∧
    ∃ t : State, Sys2Proof.core.run (s.cfg.P_LATCH_TICKS * s.cfg.P_TICK_CYCLES) s = .next t ∧ t.state = .sm ∧
      t.accepted = s.accepted ∧ t.emitted = s.emitted

/-- With out_ready held at 1 the drain takes exactly dlen cycles and emits the payload in order (43_latch.md R149,
43_latch.md R142, 43_latch.md R143, 70_reset_and_hazards.md R202). From a state that meets the invariants at the start
of the drain (didx = 0), if rst is 0 and out_ready is 1 for dlen = min(plen, P_C) cycles, then before each of them the
block is in the drain, after them it is at the start of the settle, and the (i+1)-th of the dlen bytes emitted is the
(i+1)-th payload byte accepted. -/
def Obligations.DrainEmitsTheBufferInDlenCycles : Prop :=
  ∀ s : State, Inv s → s.state = .la → s.lphase = .drain → s.didx = 0 →
    (∀ k, k < s.dlen → (s.portAt k).rst = false ∧ (s.portAt k).outReady = true) →
    (∀ k, k < s.dlen → ∃ t : State, Sys2Proof.core.run k s = .next t ∧ t.state = .la ∧ t.lphase = .drain) ∧
    ∃ t : State, Sys2Proof.core.run s.dlen s = .next t ∧ t.state = .la ∧ t.lphase = .settle ∧ t.tick_cnt = 0 ∧
      t.latch_cnt = 0 ∧ t.accepted = s.accepted ∧
      ∀ i, i < s.dlen → (t.emittedByte s.dlen i).isSome = true ∧ t.emittedByte s.dlen i = s.payloadByte i

/-- The bytes emitted during a drain equal the first dlen payload bytes accepted, in order (R135). If the invariants hold,
the block is in the drain and step answers t in the settle, then for every i < dlen the (i+1)-th of the last dlen
bytes emitted is the (i+1)-th payload byte of the frame; and under REJECT dlen is plen, every payload byte. -/
def Obligations.TransmittedBytesEqualReceivedBytes : Prop :=
  ∀ s t : State, Inv s → s.lphase = .drain → step s = .next t → t.lphase = .settle →
    (∀ i, i < s.dlen → (t.emittedByte s.dlen i).isSome = true ∧ t.emittedByte s.dlen i = s.payloadByte i) ∧
    (s.cfg.P_OVERSIZE = .reject → s.dlen = s.plen.toNat)

/-- A step from outside SeekingMagic leaves the window empty, and two accepted bytes are needed before a match (40_sync.md
R105, 40_sync.md R104, 10_state.md R34). If the invariants hold, the state is not SM and step answers t, then mw_cnt =
0 and mw = 0 in t; and in any state with fewer than two valid bytes mmatch is 0, whatever the marker. -/
def Obligations.WindowIsEmptyOnEveryReturnToSeeking : Prop :=
  ∀ s : State, (Inv s → s.state ≠ .sm → ∀ t, step s = .next t → t.mw_cnt = 0 ∧ t.mw = 0x000000) ∧
    (s.mw_cnt.toNat < 2 → mmatch s = false)

/-- Three consecutive accepted bytes equal to the marker reach ReadingHeader, whatever the window held before (40_sync.md
R103, 30_encoding.md R71). From any state in SM of a legal build, if the next three bytes offered are P_M0, P_M1,
P_M2, with any numbers a and b of idle cycles between them and rst = 0 throughout, then the block is in RH after some
number of cycles that is at most the cycle of the third byte. -/
def Obligations.MarkerIsNeverMissed : Prop :=
  ∀ (s : State) (a b : Nat), s.cfg.legal = true → s.state = .sm →
    (∀ k, k < a + b + 3 → (s.portAt k).rst = false) →
    (∀ k, k < a + b + 3 → ((s.portAt k).inValid = true ↔ k = 0 ∨ k = a + 1 ∨ k = a + b + 2)) →
    (s.portAt 0).inData = s.cfg.P_M0 → (s.portAt (a + 1)).inData = s.cfg.P_M1 →
    (s.portAt (a + b + 2)).inData = s.cfg.P_M2 →
    ∃ (k : Nat) (t : State), k ≤ a + b + 3 ∧ Sys2Proof.core.run k s = .next t ∧ t.state = .rh

/-- One checksum byte is valid; single bit errors are detected, equal flips of two bytes and a swap are not (R119). For
any P_K, hi and lo exactly the byte hi ^ lo ^ P_K is valid; flipping one bit of one of the three bytes of a valid
header makes it invalid; flipping the same bit of two of them keeps it valid; swapping hi and lo keeps it valid, and
changes pixelCount unless hi = lo. With P_K = 0x56 this is R119. -/
def Obligations.ChecksumDetectsSingleBitErrorsButNotEqualFlips : Prop :=
  ∀ (c : Params) (hi lo x : Byte) (k : Nat), k < 8 →
    (x = checksum c hi lo ↔ x = hi ^^^ lo ^^^ c.P_K) ∧
    (x = checksum c hi lo →
      x ≠ checksum c (hi ^^^ BitVec.twoPow 8 k) lo ∧ x ≠ checksum c hi (lo ^^^ BitVec.twoPow 8 k) ∧
      x ^^^ BitVec.twoPow 8 k ≠ checksum c hi lo ∧
      x = checksum c (hi ^^^ BitVec.twoPow 8 k) (lo ^^^ BitVec.twoPow 8 k) ∧
      x ^^^ BitVec.twoPow 8 k = checksum c (hi ^^^ BitVec.twoPow 8 k) lo ∧
      x ^^^ BitVec.twoPow 8 k = checksum c hi (lo ^^^ BitVec.twoPow 8 k) ∧
      x = checksum c lo hi) ∧
    (pixelCount hi lo = pixelCount lo hi ↔ hi = lo)

/-- payloadLength is 3 (pixelCount + 1) with pixelCount big-endian, between 3 and 196608 and a multiple of 3 (R73, R74).
For all hi and lo, pixelCount is 256 hi + lo, payloadLength is 3 (pixelCount + 1) as a natural number, lies between 3
and 196608 and is a multiple of 3; it is 3 exactly for pixelCount 0 and 196608 exactly for pixelCount 65535. -/
def Obligations.PayloadLengthIsThreeTimesPixelsWithoutOverflow : Prop :=
  ∀ hi lo : Byte,
    (pixelCount hi lo).toNat = 256 * hi.toNat + lo.toNat ∧
    (payloadLength hi lo).toNat = 3 * ((pixelCount hi lo).toNat + 1) ∧
    3 ≤ (payloadLength hi lo).toNat ∧ (payloadLength hi lo).toNat ≤ 196608 ∧ (payloadLength hi lo).toNat % 3 = 0 ∧
    ((payloadLength hi lo).toNat = 3 ↔ pixelCount hi lo = 0x0000) ∧
    ((payloadLength hi lo).toNat = 196608 ↔ pixelCount hi lo = 0xFFFF)

/-- A block that waits for a byte with no timeout, or for the sink, stays as it is for any number of cycles
(60_exceptions.md R185, 43_latch.md R150, 40_sync.md R100). In a legal build with rst = 0 for n cycles: in SM, or in
RH or RP with P_IDLE_TIMEOUT = 0, if no byte is offered in them, or in the drain of LA if out_ready is 0 in them, then
after n cycles every register and the PixelBuffer are as they were and nothing was accepted or emitted. -/
def Obligations.WaitingBlocksStayParked : Prop :=
  ∀ (s : State) (n : Nat), s.cfg.legal = true → (∀ k, k < n → (s.portAt k).rst = false) →
    ((s.state = .sm ∨ ((s.state = .rh ∨ s.state = .rp) ∧ s.cfg.P_IDLE_TIMEOUT = 0)) ∧
        (∀ k, k < n → (s.portAt k).inValid = false) ∨
      (s.state = .la ∧ s.lphase = .drain ∧ ∀ k, k < n → (s.portAt k).outReady = false)) →
    ∃ t : State, Sys2Proof.core.run n s = .next t ∧ t.view = s.view ∧ t.accepted = s.accepted ∧
      t.emitted = s.emitted

/-- With a timeout of N the block returns to SeekingMagic after exactly N cycles with no byte (41_header.md R117,
42_payload.md R131, 60_exceptions.md R174). From a state that meets the invariants in RH or RP with idle_cnt = 0 and
P_IDLE_TIMEOUT = N at least 1, if rst is 0 and no byte is offered for N cycles, then before each of them the state is
unchanged and after them it is SM, StalledTransport raised in the last of them, nothing accepted or emitted and the
PixelBuffer unchanged. -/
def Obligations.IdleTimeoutFiresInItsCycleExactly : Prop :=
  ∀ s : State, Inv s → s.state = .rh ∨ s.state = .rp → s.idle_cnt = 0 → s.cfg.P_IDLE_TIMEOUT ≠ 0 →
    (∀ k, k < s.cfg.P_IDLE_TIMEOUT → (s.portAt k).rst = false ∧ (s.portAt k).inValid = false) →
    (∀ k, k < s.cfg.P_IDLE_TIMEOUT → ∃ t : State, Sys2Proof.core.run k s = .next t ∧ t.state = s.state) ∧
    ∃ t : State, Sys2Proof.core.run s.cfg.P_IDLE_TIMEOUT s = .next t ∧ t.state = .sm ∧
      t.raised = (s.cycle + s.cfg.P_IDLE_TIMEOUT - 1, .stalledTransport) :: s.raised ∧
      t.accepted = s.accepted ∧ t.emitted = s.emitted ∧ t.buf = s.buf

/-- A frame at full rate is sent in order and the block is back in SM after 6 + plen + dlen + settle cycles
(70_reset_and_hazards.md R202, 70_reset_and_hazards.md R203, 30_encoding.md R70, 42_payload.md R135). From a state
that meets the invariants in SM with an empty window, if the ports carry a whole frame at full rate (marker, header hi
lo hi^lo^P_K with a length that the policy admits, plen payload bytes), out_ready is 1 in the dlen cycles after it and
rst is 0 for N = 6 + plen + dlen + P_LATCH_TICKS × P_TICK_CYCLES cycles, then after N cycles the block is in SM with
an empty window, the last dlen bytes emitted are the first dlen payload bytes in order, and from the third cycle on it
was not in SM before. -/
def Obligations.FrameIsTransmittedInItsCycleCount : Prop :=
  ∀ (s : State) (hi lo : Byte) (plen dlen n : Nat), Inv s → s.state = .sm → s.mw_cnt = 0 →
    plen = 3 * (256 * hi.toNat + lo.toNat + 1) → dlen = min plen s.cfg.P_C →
    n = 6 + plen + dlen + s.cfg.P_LATCH_TICKS * s.cfg.P_TICK_CYCLES →
    (s.cfg.P_OVERSIZE = .reject → plen ≤ s.cfg.P_C) →
    (∀ k, k < n → (s.portAt k).rst = false) → (∀ k, k < 6 + plen → (s.portAt k).inValid = true) →
    (s.portAt 0).inData = s.cfg.P_M0 → (s.portAt 1).inData = s.cfg.P_M1 → (s.portAt 2).inData = s.cfg.P_M2 →
    (s.portAt 3).inData = hi → (s.portAt 4).inData = lo → (s.portAt 5).inData = hi ^^^ lo ^^^ s.cfg.P_K →
    (∀ k, 6 + plen ≤ k → k < 6 + plen + dlen → (s.portAt k).outReady = true) →
    (∃ t : State, Sys2Proof.core.run n s = .next t ∧ t.state = .sm ∧ t.mw_cnt = 0 ∧
      ∀ i, i < dlen → t.emittedByte dlen i = some (s.portAt (6 + i)).inData) ∧
    ∀ k, 3 ≤ k → k < n → ∃ t : State, Sys2Proof.core.run k s = .next t ∧ t.state ≠ .sm
end

