-- ==== Sys2Proof/Laws/Decode.lean ====
section
/-!
SUPPORT. What a row's match says about the bits of a selector word, row by row, and that a row answers with the
operation whose row it is.
-/
namespace Sys2Proof

/-- A row matches a word iff the word has the row's values in the bits that the row reads. -/
theorem selects_eq_bits (r : Row) (w : Sel) :
    r.selects w = (List.range 16).all fun k => (w.getLsbD k && r.mask.getLsbD k) == r.pattern.getLsbD k := by
  rw [Bool.eq_iff_iff]
  simp only [Row.selects, beq_iff_eq, List.all_eq_true, List.mem_range]
  constructor
  · intro h k _
    rw [← h, BitVec.getLsbD_and]
  · intro h
    apply BitVec.eq_of_getLsbD_eq
    intro k hk
    rw [BitVec.getLsbD_and]
    exact h k hk

/-- `List.range 16` written out, for the row lemmas. -/
theorem range_16 : List.range 16 = [0, 1, 2, 3, 4, 5, 6, 7, 8, 9, 10, 11, 12, 13, 14, 15] := by decide

/-- A word that a row's match bits and unread bits make has the match bits where the row reads. -/
theorem or_and_mask (m p u : Sel) (hp : p &&& m = p) (hu : u &&& m = 0) : (p ||| u) &&& m = p := by
  rw [BitVec.and_or_distrib_right, hp, hu]
  exact BitVec.or_zero

theorem rowReset_selects (w : Sel) :
    rowReset.selects w = (w.getLsbD 15) := by
  simp [selects_eq_bits, range_16, rowReset]

theorem rowSeekIdle_selects (w : Sel) :
    rowSeekIdle.selects w = (!w.getLsbD 9 && (!w.getLsbD 13 && (!w.getLsbD 14 && !w.getLsbD 15))) := by
  simp [selects_eq_bits, range_16, rowSeekIdle]

theorem rowSeekShift_selects (w : Sel) :
    rowSeekShift.selects w = (!w.getLsbD 7 && (w.getLsbD 9 && (!w.getLsbD 13 && (!w.getLsbD 14 && !w.getLsbD 15)))) := by
  simp [selects_eq_bits, range_16, rowSeekShift]

theorem rowSeekMatch_selects (w : Sel) :
    rowSeekMatch.selects w = (w.getLsbD 7 && (w.getLsbD 9 && (!w.getLsbD 13 && (!w.getLsbD 14 && !w.getLsbD 15)))) := by
  simp [selects_eq_bits, range_16, rowSeekMatch]

theorem rowHdrWait_selects (w : Sel) :
    rowHdrWait.selects w = (!w.getLsbD 0 && (!w.getLsbD 9 && (w.getLsbD 13 && (!w.getLsbD 14 && !w.getLsbD 15)))) := by
  simp [selects_eq_bits, range_16, rowHdrWait]

theorem rowHdrHi_selects (w : Sel) :
    rowHdrHi.selects w = (w.getLsbD 9 && (!w.getLsbD 10 && (!w.getLsbD 11 && (w.getLsbD 13 && (!w.getLsbD 14 && !w.getLsbD 15))))) := by
  simp [selects_eq_bits, range_16, rowHdrHi]

theorem rowHdrLo_selects (w : Sel) :
    rowHdrLo.selects w = (w.getLsbD 9 && (w.getLsbD 10 && (!w.getLsbD 11 && (w.getLsbD 13 && (!w.getLsbD 14 && !w.getLsbD 15))))) := by
  simp [selects_eq_bits, range_16, rowHdrLo]

theorem rowHdrChkOk_selects (w : Sel) :
    rowHdrChkOk.selects w = (!w.getLsbD 5 && (w.getLsbD 6 && (w.getLsbD 9 && (!w.getLsbD 10 && (w.getLsbD 11 && (w.getLsbD 13 && (!w.getLsbD 14 && !w.getLsbD 15))))))) := by
  simp [selects_eq_bits, range_16, rowHdrChkOk]

theorem rowHdrChkBad_selects (w : Sel) :
    rowHdrChkBad.selects w = (!w.getLsbD 6 && (w.getLsbD 9 && (!w.getLsbD 10 && (w.getLsbD 11 && (w.getLsbD 13 && (!w.getLsbD 14 && !w.getLsbD 15)))))) := by
  simp [selects_eq_bits, range_16, rowHdrChkBad]

theorem rowHdrOversize_selects (w : Sel) :
    rowHdrOversize.selects w = (w.getLsbD 5 && (w.getLsbD 6 && (w.getLsbD 9 && (!w.getLsbD 10 && (w.getLsbD 11 && (w.getLsbD 13 && (!w.getLsbD 14 && !w.getLsbD 15))))))) := by
  simp [selects_eq_bits, range_16, rowHdrOversize]

theorem rowHdrRsvd_selects (w : Sel) :
    rowHdrRsvd.selects w = (w.getLsbD 9 && (w.getLsbD 10 && (w.getLsbD 11 && (w.getLsbD 13 && (!w.getLsbD 14 && !w.getLsbD 15))))) := by
  simp [selects_eq_bits, range_16, rowHdrRsvd]

theorem rowHdrTimeout_selects (w : Sel) :
    rowHdrTimeout.selects w = (w.getLsbD 0 && (!w.getLsbD 9 && (w.getLsbD 13 && (!w.getLsbD 14 && !w.getLsbD 15)))) := by
  simp [selects_eq_bits, range_16, rowHdrTimeout]

theorem rowPayWait_selects (w : Sel) :
    rowPayWait.selects w = (!w.getLsbD 0 && (!w.getLsbD 9 && (!w.getLsbD 13 && (w.getLsbD 14 && !w.getLsbD 15)))) := by
  simp [selects_eq_bits, range_16, rowPayWait]

theorem rowPayTimeout_selects (w : Sel) :
    rowPayTimeout.selects w = (w.getLsbD 0 && (!w.getLsbD 9 && (!w.getLsbD 13 && (w.getLsbD 14 && !w.getLsbD 15)))) := by
  simp [selects_eq_bits, range_16, rowPayTimeout]

theorem rowPayStore_selects (w : Sel) :
    rowPayStore.selects w = (!w.getLsbD 4 && (w.getLsbD 9 && (!w.getLsbD 13 && (w.getLsbD 14 && !w.getLsbD 15)))) := by
  simp [selects_eq_bits, range_16, rowPayStore]

theorem rowPayLast_selects (w : Sel) :
    rowPayLast.selects w = (w.getLsbD 4 && (w.getLsbD 9 && (!w.getLsbD 13 && (w.getLsbD 14 && !w.getLsbD 15)))) := by
  simp [selects_eq_bits, range_16, rowPayLast]

theorem rowDrainWait_selects (w : Sel) :
    rowDrainWait.selects w = (!w.getLsbD 8 && (!w.getLsbD 12 && (w.getLsbD 13 && (w.getLsbD 14 && !w.getLsbD 15)))) := by
  simp [selects_eq_bits, range_16, rowDrainWait]

theorem rowDrainEmit_selects (w : Sel) :
    rowDrainEmit.selects w = (!w.getLsbD 3 && (w.getLsbD 8 && (!w.getLsbD 12 && (w.getLsbD 13 && (w.getLsbD 14 && !w.getLsbD 15))))) := by
  simp [selects_eq_bits, range_16, rowDrainEmit]

theorem rowDrainLast_selects (w : Sel) :
    rowDrainLast.selects w = (w.getLsbD 3 && (w.getLsbD 8 && (!w.getLsbD 12 && (w.getLsbD 13 && (w.getLsbD 14 && !w.getLsbD 15))))) := by
  simp [selects_eq_bits, range_16, rowDrainLast]

theorem rowSettleCycle_selects (w : Sel) :
    rowSettleCycle.selects w = (!w.getLsbD 2 && (w.getLsbD 12 && (w.getLsbD 13 && (w.getLsbD 14 && !w.getLsbD 15)))) := by
  simp [selects_eq_bits, range_16, rowSettleCycle]

theorem rowSettleTick_selects (w : Sel) :
    rowSettleTick.selects w = (!w.getLsbD 1 && (w.getLsbD 2 && (w.getLsbD 12 && (w.getLsbD 13 && (w.getLsbD 14 && !w.getLsbD 15))))) := by
  simp [selects_eq_bits, range_16, rowSettleTick]

theorem rowSettleDone_selects (w : Sel) :
    rowSettleDone.selects w = (w.getLsbD 1 && (w.getLsbD 2 && (w.getLsbD 12 && (w.getLsbD 13 && (w.getLsbD 14 && !w.getLsbD 15))))) := by
  simp [selects_eq_bits, range_16, rowSettleDone]

end Sys2Proof
end

