-- ==== Sys2Proof/Laws/PerInstr.lean ====
section
/-!
SUPPORT. Facts about every operation as syntax, one lemma for each constructor.
-/
namespace Sys2Proof.Laws.EncodesInRow

/-- A well-formed operation's word matches the row of the operation. -/
def Statement (i : Instr) : Prop := i.wf = true → i.row.selects (encode i) = true

theorem reset (unread : Sel) : Statement (.reset unread) := by
  intro h
  exact beq_iff_eq.2 (or_and_mask _ _ _ (show rowReset.pattern &&& rowReset.mask = rowReset.pattern by decide) (eq_of_beq h))

theorem seekIdle (unread : Sel) : Statement (.seekIdle unread) := by
  intro h
  exact beq_iff_eq.2 (or_and_mask _ _ _ (show rowSeekIdle.pattern &&& rowSeekIdle.mask = rowSeekIdle.pattern by decide) (eq_of_beq h))

theorem seekShift (unread : Sel) : Statement (.seekShift unread) := by
  intro h
  exact beq_iff_eq.2 (or_and_mask _ _ _ (show rowSeekShift.pattern &&& rowSeekShift.mask = rowSeekShift.pattern by decide) (eq_of_beq h))

theorem seekMatch (unread : Sel) : Statement (.seekMatch unread) := by
  intro h
  exact beq_iff_eq.2 (or_and_mask _ _ _ (show rowSeekMatch.pattern &&& rowSeekMatch.mask = rowSeekMatch.pattern by decide) (eq_of_beq h))

theorem hdrWait (unread : Sel) : Statement (.hdrWait unread) := by
  intro h
  exact beq_iff_eq.2 (or_and_mask _ _ _ (show rowHdrWait.pattern &&& rowHdrWait.mask = rowHdrWait.pattern by decide) (eq_of_beq h))

theorem hdrHi (unread : Sel) : Statement (.hdrHi unread) := by
  intro h
  exact beq_iff_eq.2 (or_and_mask _ _ _ (show rowHdrHi.pattern &&& rowHdrHi.mask = rowHdrHi.pattern by decide) (eq_of_beq h))

theorem hdrLo (unread : Sel) : Statement (.hdrLo unread) := by
  intro h
  exact beq_iff_eq.2 (or_and_mask _ _ _ (show rowHdrLo.pattern &&& rowHdrLo.mask = rowHdrLo.pattern by decide) (eq_of_beq h))

theorem hdrChkOk (unread : Sel) : Statement (.hdrChkOk unread) := by
  intro h
  exact beq_iff_eq.2 (or_and_mask _ _ _ (show rowHdrChkOk.pattern &&& rowHdrChkOk.mask = rowHdrChkOk.pattern by decide) (eq_of_beq h))

theorem hdrChkBad (unread : Sel) : Statement (.hdrChkBad unread) := by
  intro h
  exact beq_iff_eq.2 (or_and_mask _ _ _ (show rowHdrChkBad.pattern &&& rowHdrChkBad.mask = rowHdrChkBad.pattern by decide) (eq_of_beq h))

theorem hdrOversize (unread : Sel) : Statement (.hdrOversize unread) := by
  intro h
  exact beq_iff_eq.2 (or_and_mask _ _ _ (show rowHdrOversize.pattern &&& rowHdrOversize.mask = rowHdrOversize.pattern by decide) (eq_of_beq h))

theorem hdrRsvd (unread : Sel) : Statement (.hdrRsvd unread) := by
  intro h
  exact beq_iff_eq.2 (or_and_mask _ _ _ (show rowHdrRsvd.pattern &&& rowHdrRsvd.mask = rowHdrRsvd.pattern by decide) (eq_of_beq h))

theorem hdrTimeout (unread : Sel) : Statement (.hdrTimeout unread) := by
  intro h
  exact beq_iff_eq.2 (or_and_mask _ _ _ (show rowHdrTimeout.pattern &&& rowHdrTimeout.mask = rowHdrTimeout.pattern by decide) (eq_of_beq h))

theorem payWait (unread : Sel) : Statement (.payWait unread) := by
  intro h
  exact beq_iff_eq.2 (or_and_mask _ _ _ (show rowPayWait.pattern &&& rowPayWait.mask = rowPayWait.pattern by decide) (eq_of_beq h))

theorem payTimeout (unread : Sel) : Statement (.payTimeout unread) := by
  intro h
  exact beq_iff_eq.2 (or_and_mask _ _ _ (show rowPayTimeout.pattern &&& rowPayTimeout.mask = rowPayTimeout.pattern by decide) (eq_of_beq h))

theorem payStore (unread : Sel) : Statement (.payStore unread) := by
  intro h
  exact beq_iff_eq.2 (or_and_mask _ _ _ (show rowPayStore.pattern &&& rowPayStore.mask = rowPayStore.pattern by decide) (eq_of_beq h))

theorem payLast (unread : Sel) : Statement (.payLast unread) := by
  intro h
  exact beq_iff_eq.2 (or_and_mask _ _ _ (show rowPayLast.pattern &&& rowPayLast.mask = rowPayLast.pattern by decide) (eq_of_beq h))

theorem drainWait (unread : Sel) : Statement (.drainWait unread) := by
  intro h
  exact beq_iff_eq.2 (or_and_mask _ _ _ (show rowDrainWait.pattern &&& rowDrainWait.mask = rowDrainWait.pattern by decide) (eq_of_beq h))

theorem drainEmit (unread : Sel) : Statement (.drainEmit unread) := by
  intro h
  exact beq_iff_eq.2 (or_and_mask _ _ _ (show rowDrainEmit.pattern &&& rowDrainEmit.mask = rowDrainEmit.pattern by decide) (eq_of_beq h))

theorem drainLast (unread : Sel) : Statement (.drainLast unread) := by
  intro h
  exact beq_iff_eq.2 (or_and_mask _ _ _ (show rowDrainLast.pattern &&& rowDrainLast.mask = rowDrainLast.pattern by decide) (eq_of_beq h))

theorem settleCycle (unread : Sel) : Statement (.settleCycle unread) := by
  intro h
  exact beq_iff_eq.2 (or_and_mask _ _ _ (show rowSettleCycle.pattern &&& rowSettleCycle.mask = rowSettleCycle.pattern by decide) (eq_of_beq h))

theorem settleTick (unread : Sel) : Statement (.settleTick unread) := by
  intro h
  exact beq_iff_eq.2 (or_and_mask _ _ _ (show rowSettleTick.pattern &&& rowSettleTick.mask = rowSettleTick.pattern by decide) (eq_of_beq h))

theorem settleDone (unread : Sel) : Statement (.settleDone unread) := by
  intro h
  exact beq_iff_eq.2 (or_and_mask _ _ _ (show rowSettleDone.pattern &&& rowSettleDone.mask = rowSettleDone.pattern by decide) (eq_of_beq h))

end Sys2Proof.Laws.EncodesInRow
end

