-- ==== Sys2Proof/Laws/Select.lean ====
section
/-!
SUPPORT. Which row a cycle's selector word matches, read off the registers and ports that R78 puts into the word.
-/
namespace Sys2Proof.Machine

/-- The bits of SEL, from bit 0 up (R78). -/
theorem sel_bits (s : State) :
    (List.range 16).map (sel s).getLsbD = [idleEnd s, latchEnd s, tickEnd s, drainLast s, payLast s, rejOver s,
      chkOk s, mmatch s, s.port.outReady, s.port.inValid, s.hdr_cnt.getLsbD 0, s.hdr_cnt.getLsbD 1,
      s.lphase.code.getLsbD 0, s.state.code.getLsbD 0, s.state.code.getLsbD 1, s.port.rst] := by
  simp only [sel, range_16, List.map_cons, List.map_nil,
    BitVec.getLsbD_append (n := 15) (m := 1), BitVec.getLsbD_append (n := 14) (m := 1),
    BitVec.getLsbD_append (n := 13) (m := 1), BitVec.getLsbD_append (n := 12) (m := 1),
    BitVec.getLsbD_append (n := 11) (m := 1), BitVec.getLsbD_append (n := 10) (m := 1),
    BitVec.getLsbD_append (n := 9) (m := 1), BitVec.getLsbD_append (n := 8) (m := 1),
    BitVec.getLsbD_append (n := 7) (m := 1), BitVec.getLsbD_append (n := 6) (m := 1),
    BitVec.getLsbD_append (n := 4) (m := 2), BitVec.getLsbD_append (n := 3) (m := 1),
    BitVec.getLsbD_append (n := 1) (m := 2)]
  simp

/-- The row of a cycle, as the priorities of R90 and the state machine of R88 read. -/
def rowFor (s : State) : Row :=
  if s.port.rst then rowReset
  else match s.state with
    | .sm => if s.port.inValid then (if mmatch s then rowSeekMatch else rowSeekShift) else rowSeekIdle
    | .rh =>
      if s.port.inValid then
        if s.hdr_cnt = 0 then rowHdrHi
        else if s.hdr_cnt = 1 then rowHdrLo
        else if s.hdr_cnt = 2 then
          (if chkOk s then (if rejOver s then rowHdrOversize else rowHdrChkOk) else rowHdrChkBad)
        else rowHdrRsvd
      else if idleEnd s then rowHdrTimeout else rowHdrWait
    | .rp =>
      if s.port.inValid then (if payLast s then rowPayLast else rowPayStore)
      else if idleEnd s then rowPayTimeout else rowPayWait
    | .la =>
      match s.lphase with
      | .drain => if s.port.outReady then (if drainLast s then rowDrainLast else rowDrainEmit) else rowDrainWait
      | .settle => if tickEnd s then (if latchEnd s then rowSettleDone else rowSettleTick) else rowSettleCycle

/-- The row found for the cycle's selector word is `rowFor`. -/
theorem find_row (s : State) : (rows.find? fun r => r.selects (sel s)) = some (rowFor s) := by
  have hb := sel_bits s
  simp only [range_16, List.map_cons, List.map_nil, List.cons.injEq, and_true] at hb
  obtain ⟨b0, b1, b2, b3, b4, b5, b6, b7, b8, b9, b10, b11, b12, b13, b14, b15⟩ := hb
  have hc : s.hdr_cnt = 0 ∨ s.hdr_cnt = 1 ∨ s.hdr_cnt = 2 ∨ s.hdr_cnt = 3 := by
    generalize s.hdr_cnt = n
    revert n
    decide
  simp only [rows, List.cons_append, List.nil_append, List.find?_cons, List.find?_nil,
    rowReset_selects, rowSeekIdle_selects, rowSeekShift_selects, rowSeekMatch_selects, rowHdrWait_selects,
    rowHdrHi_selects, rowHdrLo_selects, rowHdrChkOk_selects, rowHdrChkBad_selects, rowHdrOversize_selects,
    rowHdrRsvd_selects, rowHdrTimeout_selects, rowPayWait_selects, rowPayTimeout_selects, rowPayStore_selects,
    rowPayLast_selects, rowDrainWait_selects, rowDrainEmit_selects, rowDrainLast_selects, rowSettleCycle_selects,
    rowSettleTick_selects, rowSettleDone_selects,
    b0, b1, b2, b3, b4, b5, b6, b7, b8, b9, b10, b11, b12, b13, b14, b15]
  unfold rowFor
  cases hr : s.port.rst
  · cases hs : s.state
    · cases hv : s.port.inValid
      · simp [ProtocolState.code]
      · cases hm : mmatch s <;> simp [ProtocolState.code]
    · cases hv : s.port.inValid
      · cases hi : idleEnd s <;> simp [ProtocolState.code]
      · rcases hc with hc | hc | hc | hc
        · simp [ProtocolState.code, hc]
        · simp [ProtocolState.code, hc]
        · cases hk : chkOk s
          · simp [ProtocolState.code, hc]
          · cases ho : rejOver s <;> simp [ProtocolState.code, hc]
        · simp [ProtocolState.code, hc]
    · cases hv : s.port.inValid
      · cases hi : idleEnd s <;> simp [ProtocolState.code]
      · cases hl : payLast s <;> simp [ProtocolState.code]
    · cases hp : s.lphase
      · cases ho : s.port.outReady
        · simp [ProtocolState.code, LPhase.code]
        · cases hl : drainLast s <;> simp [ProtocolState.code, LPhase.code]
      · cases ht : tickEnd s
        · simp [ProtocolState.code, LPhase.code]
        · cases hl : latchEnd s <;> simp [ProtocolState.code, LPhase.code]
  · simp

/-- The decoder's answer for the cycle's selector word. -/
theorem decodeSel_sel (s : State) :
    decodeSel (sel s) = some ((rowFor s).make (sel s &&& ~~~(rowFor s).mask)) := by
  rw [decodeSel, find_row, Option.map_some]

end Sys2Proof.Machine
end

