-- ==== Sys2Proof/Laws/State.lean ====
section
/-!
SUPPORT. One lemma for each field of State and each shared update.
-/
namespace Sys2Proof.Machine

/-! ### accept -/

@[simp] theorem State.accept_state (s : State) : (s.accept).state = s.state := rfl
@[simp] theorem State.accept_lphase (s : State) : (s.accept).lphase = s.lphase := rfl
@[simp] theorem State.accept_mw (s : State) : (s.accept).mw = s.mw := rfl
@[simp] theorem State.accept_mw_cnt (s : State) : (s.accept).mw_cnt = s.mw_cnt := rfl
@[simp] theorem State.accept_hdr_cnt (s : State) : (s.accept).hdr_cnt = s.hdr_cnt := rfl
@[simp] theorem State.accept_hdr_hi (s : State) : (s.accept).hdr_hi = s.hdr_hi := rfl
@[simp] theorem State.accept_hdr_lo (s : State) : (s.accept).hdr_lo = s.hdr_lo := rfl
@[simp] theorem State.accept_plen (s : State) : (s.accept).plen = s.plen := rfl
@[simp] theorem State.accept_cursor (s : State) : (s.accept).cursor = s.cursor := rfl
@[simp] theorem State.accept_didx (s : State) : (s.accept).didx = s.didx := rfl
@[simp] theorem State.accept_latch_cnt (s : State) : (s.accept).latch_cnt = s.latch_cnt := rfl
@[simp] theorem State.accept_tick_cnt (s : State) : (s.accept).tick_cnt = s.tick_cnt := rfl
@[simp] theorem State.accept_idle_cnt (s : State) : (s.accept).idle_cnt = s.idle_cnt := rfl
@[simp] theorem State.accept_buf (s : State) : (s.accept).buf = s.buf := rfl
@[simp] theorem State.accept_cfg (s : State) : (s.accept).cfg = s.cfg := rfl
@[simp] theorem State.accept_feed (s : State) : (s.accept).feed = s.feed := rfl
@[simp] theorem State.accept_cycle (s : State) : (s.accept).cycle = s.cycle := rfl
@[simp] theorem State.accept_accepted (s : State) : (s.accept).accepted = (s.cycle, s.port.inData) :: s.accepted := rfl
@[simp] theorem State.accept_emitted (s : State) : (s.accept).emitted = s.emitted := rfl
@[simp] theorem State.accept_raised (s : State) : (s.accept).raised = s.raised := rfl

/-! ### emit -/

@[simp] theorem State.emit_state (s : State) (b : Byte) : (s.emit b).state = s.state := rfl
@[simp] theorem State.emit_lphase (s : State) (b : Byte) : (s.emit b).lphase = s.lphase := rfl
@[simp] theorem State.emit_mw (s : State) (b : Byte) : (s.emit b).mw = s.mw := rfl
@[simp] theorem State.emit_mw_cnt (s : State) (b : Byte) : (s.emit b).mw_cnt = s.mw_cnt := rfl
@[simp] theorem State.emit_hdr_cnt (s : State) (b : Byte) : (s.emit b).hdr_cnt = s.hdr_cnt := rfl
@[simp] theorem State.emit_hdr_hi (s : State) (b : Byte) : (s.emit b).hdr_hi = s.hdr_hi := rfl
@[simp] theorem State.emit_hdr_lo (s : State) (b : Byte) : (s.emit b).hdr_lo = s.hdr_lo := rfl
@[simp] theorem State.emit_plen (s : State) (b : Byte) : (s.emit b).plen = s.plen := rfl
@[simp] theorem State.emit_cursor (s : State) (b : Byte) : (s.emit b).cursor = s.cursor := rfl
@[simp] theorem State.emit_didx (s : State) (b : Byte) : (s.emit b).didx = s.didx := rfl
@[simp] theorem State.emit_latch_cnt (s : State) (b : Byte) : (s.emit b).latch_cnt = s.latch_cnt := rfl
@[simp] theorem State.emit_tick_cnt (s : State) (b : Byte) : (s.emit b).tick_cnt = s.tick_cnt := rfl
@[simp] theorem State.emit_idle_cnt (s : State) (b : Byte) : (s.emit b).idle_cnt = s.idle_cnt := rfl
@[simp] theorem State.emit_buf (s : State) (b : Byte) : (s.emit b).buf = s.buf := rfl
@[simp] theorem State.emit_cfg (s : State) (b : Byte) : (s.emit b).cfg = s.cfg := rfl
@[simp] theorem State.emit_feed (s : State) (b : Byte) : (s.emit b).feed = s.feed := rfl
@[simp] theorem State.emit_cycle (s : State) (b : Byte) : (s.emit b).cycle = s.cycle := rfl
@[simp] theorem State.emit_accepted (s : State) (b : Byte) : (s.emit b).accepted = s.accepted := rfl
@[simp] theorem State.emit_emitted (s : State) (b : Byte) : (s.emit b).emitted = (s.cycle, b) :: s.emitted := rfl
@[simp] theorem State.emit_raised (s : State) (b : Byte) : (s.emit b).raised = s.raised := rfl

/-! ### raise -/

@[simp] theorem State.raise_state (s : State) (e : ErrorClass) : (s.raise e).state = s.state := rfl
@[simp] theorem State.raise_lphase (s : State) (e : ErrorClass) : (s.raise e).lphase = s.lphase := rfl
@[simp] theorem State.raise_mw (s : State) (e : ErrorClass) : (s.raise e).mw = s.mw := rfl
@[simp] theorem State.raise_mw_cnt (s : State) (e : ErrorClass) : (s.raise e).mw_cnt = s.mw_cnt := rfl
@[simp] theorem State.raise_hdr_cnt (s : State) (e : ErrorClass) : (s.raise e).hdr_cnt = s.hdr_cnt := rfl
@[simp] theorem State.raise_hdr_hi (s : State) (e : ErrorClass) : (s.raise e).hdr_hi = s.hdr_hi := rfl
@[simp] theorem State.raise_hdr_lo (s : State) (e : ErrorClass) : (s.raise e).hdr_lo = s.hdr_lo := rfl
@[simp] theorem State.raise_plen (s : State) (e : ErrorClass) : (s.raise e).plen = s.plen := rfl
@[simp] theorem State.raise_cursor (s : State) (e : ErrorClass) : (s.raise e).cursor = s.cursor := rfl
@[simp] theorem State.raise_didx (s : State) (e : ErrorClass) : (s.raise e).didx = s.didx := rfl
@[simp] theorem State.raise_latch_cnt (s : State) (e : ErrorClass) : (s.raise e).latch_cnt = s.latch_cnt := rfl
@[simp] theorem State.raise_tick_cnt (s : State) (e : ErrorClass) : (s.raise e).tick_cnt = s.tick_cnt := rfl
@[simp] theorem State.raise_idle_cnt (s : State) (e : ErrorClass) : (s.raise e).idle_cnt = s.idle_cnt := rfl
@[simp] theorem State.raise_buf (s : State) (e : ErrorClass) : (s.raise e).buf = s.buf := rfl
@[simp] theorem State.raise_cfg (s : State) (e : ErrorClass) : (s.raise e).cfg = s.cfg := rfl
@[simp] theorem State.raise_feed (s : State) (e : ErrorClass) : (s.raise e).feed = s.feed := rfl
@[simp] theorem State.raise_cycle (s : State) (e : ErrorClass) : (s.raise e).cycle = s.cycle := rfl
@[simp] theorem State.raise_accepted (s : State) (e : ErrorClass) : (s.raise e).accepted = s.accepted := rfl
@[simp] theorem State.raise_emitted (s : State) (e : ErrorClass) : (s.raise e).emitted = s.emitted := rfl
@[simp] theorem State.raise_raised (s : State) (e : ErrorClass) : (s.raise e).raised = (s.cycle, e) :: s.raised := rfl

/-! ### memWrite -/

@[simp] theorem State.memWrite_state (s : State) (i : Nat) (v : Byte) : (s.memWrite i v).state = s.state := rfl
@[simp] theorem State.memWrite_lphase (s : State) (i : Nat) (v : Byte) : (s.memWrite i v).lphase = s.lphase := rfl
@[simp] theorem State.memWrite_mw (s : State) (i : Nat) (v : Byte) : (s.memWrite i v).mw = s.mw := rfl
@[simp] theorem State.memWrite_mw_cnt (s : State) (i : Nat) (v : Byte) : (s.memWrite i v).mw_cnt = s.mw_cnt := rfl
@[simp] theorem State.memWrite_hdr_cnt (s : State) (i : Nat) (v : Byte) : (s.memWrite i v).hdr_cnt = s.hdr_cnt := rfl
@[simp] theorem State.memWrite_hdr_hi (s : State) (i : Nat) (v : Byte) : (s.memWrite i v).hdr_hi = s.hdr_hi := rfl
@[simp] theorem State.memWrite_hdr_lo (s : State) (i : Nat) (v : Byte) : (s.memWrite i v).hdr_lo = s.hdr_lo := rfl
@[simp] theorem State.memWrite_plen (s : State) (i : Nat) (v : Byte) : (s.memWrite i v).plen = s.plen := rfl
@[simp] theorem State.memWrite_cursor (s : State) (i : Nat) (v : Byte) : (s.memWrite i v).cursor = s.cursor := rfl
@[simp] theorem State.memWrite_didx (s : State) (i : Nat) (v : Byte) : (s.memWrite i v).didx = s.didx := rfl
@[simp] theorem State.memWrite_latch_cnt (s : State) (i : Nat) (v : Byte) : (s.memWrite i v).latch_cnt = s.latch_cnt := rfl
@[simp] theorem State.memWrite_tick_cnt (s : State) (i : Nat) (v : Byte) : (s.memWrite i v).tick_cnt = s.tick_cnt := rfl
@[simp] theorem State.memWrite_idle_cnt (s : State) (i : Nat) (v : Byte) : (s.memWrite i v).idle_cnt = s.idle_cnt := rfl
@[simp] theorem State.memWrite_buf (s : State) (i : Nat) (v : Byte) : (s.memWrite i v).buf = Memory.write s.buf i v := rfl
@[simp] theorem State.memWrite_cfg (s : State) (i : Nat) (v : Byte) : (s.memWrite i v).cfg = s.cfg := rfl
@[simp] theorem State.memWrite_feed (s : State) (i : Nat) (v : Byte) : (s.memWrite i v).feed = s.feed := rfl
@[simp] theorem State.memWrite_cycle (s : State) (i : Nat) (v : Byte) : (s.memWrite i v).cycle = s.cycle := rfl
@[simp] theorem State.memWrite_accepted (s : State) (i : Nat) (v : Byte) : (s.memWrite i v).accepted = s.accepted := rfl
@[simp] theorem State.memWrite_emitted (s : State) (i : Nat) (v : Byte) : (s.memWrite i v).emitted = s.emitted := rfl
@[simp] theorem State.memWrite_raised (s : State) (i : Nat) (v : Byte) : (s.memWrite i v).raised = s.raised := rfl

/-! ### endCycle -/

@[simp] theorem State.endCycle_state (s : State) : (s.endCycle).state = s.state := rfl
@[simp] theorem State.endCycle_lphase (s : State) : (s.endCycle).lphase = s.lphase := rfl
@[simp] theorem State.endCycle_mw (s : State) : (s.endCycle).mw = s.mw := rfl
@[simp] theorem State.endCycle_mw_cnt (s : State) : (s.endCycle).mw_cnt = s.mw_cnt := rfl
@[simp] theorem State.endCycle_hdr_cnt (s : State) : (s.endCycle).hdr_cnt = s.hdr_cnt := rfl
@[simp] theorem State.endCycle_hdr_hi (s : State) : (s.endCycle).hdr_hi = s.hdr_hi := rfl
@[simp] theorem State.endCycle_hdr_lo (s : State) : (s.endCycle).hdr_lo = s.hdr_lo := rfl
@[simp] theorem State.endCycle_plen (s : State) : (s.endCycle).plen = s.plen := rfl
@[simp] theorem State.endCycle_cursor (s : State) : (s.endCycle).cursor = s.cursor := rfl
@[simp] theorem State.endCycle_didx (s : State) : (s.endCycle).didx = s.didx := rfl
@[simp] theorem State.endCycle_latch_cnt (s : State) : (s.endCycle).latch_cnt = s.latch_cnt := rfl
@[simp] theorem State.endCycle_tick_cnt (s : State) : (s.endCycle).tick_cnt = s.tick_cnt := rfl
@[simp] theorem State.endCycle_idle_cnt (s : State) : (s.endCycle).idle_cnt = s.idle_cnt := rfl
@[simp] theorem State.endCycle_buf (s : State) : (s.endCycle).buf = s.buf := rfl
@[simp] theorem State.endCycle_cfg (s : State) : (s.endCycle).cfg = s.cfg := rfl
@[simp] theorem State.endCycle_feed (s : State) : (s.endCycle).feed = s.feed.tail := rfl
@[simp] theorem State.endCycle_cycle (s : State) : (s.endCycle).cycle = s.cycle + 1 := rfl
@[simp] theorem State.endCycle_accepted (s : State) : (s.endCycle).accepted = s.accepted := rfl
@[simp] theorem State.endCycle_emitted (s : State) : (s.endCycle).emitted = s.emitted := rfl
@[simp] theorem State.endCycle_raised (s : State) : (s.endCycle).raised = s.raised := rfl

/-! ### recover -/

@[simp] theorem State.recover_state (s : State) (e : Option ErrorClass) : (s.recover e).state = .sm := by cases e <;> rfl
@[simp] theorem State.recover_lphase (s : State) (e : Option ErrorClass) : (s.recover e).lphase = s.lphase := by cases e <;> rfl
@[simp] theorem State.recover_mw (s : State) (e : Option ErrorClass) : (s.recover e).mw = s.mw := by cases e <;> rfl
@[simp] theorem State.recover_mw_cnt (s : State) (e : Option ErrorClass) : (s.recover e).mw_cnt = s.mw_cnt := by cases e <;> rfl
@[simp] theorem State.recover_hdr_cnt (s : State) (e : Option ErrorClass) : (s.recover e).hdr_cnt = 0 := by cases e <;> rfl
@[simp] theorem State.recover_hdr_hi (s : State) (e : Option ErrorClass) : (s.recover e).hdr_hi = s.hdr_hi := by cases e <;> rfl
@[simp] theorem State.recover_hdr_lo (s : State) (e : Option ErrorClass) : (s.recover e).hdr_lo = s.hdr_lo := by cases e <;> rfl
@[simp] theorem State.recover_plen (s : State) (e : Option ErrorClass) : (s.recover e).plen = s.plen := by cases e <;> rfl
@[simp] theorem State.recover_cursor (s : State) (e : Option ErrorClass) : (s.recover e).cursor = s.cursor := by cases e <;> rfl
@[simp] theorem State.recover_didx (s : State) (e : Option ErrorClass) : (s.recover e).didx = s.didx := by cases e <;> rfl
@[simp] theorem State.recover_latch_cnt (s : State) (e : Option ErrorClass) : (s.recover e).latch_cnt = s.latch_cnt := by cases e <;> rfl
@[simp] theorem State.recover_tick_cnt (s : State) (e : Option ErrorClass) : (s.recover e).tick_cnt = s.tick_cnt := by cases e <;> rfl
@[simp] theorem State.recover_idle_cnt (s : State) (e : Option ErrorClass) : (s.recover e).idle_cnt = 0 := by cases e <;> rfl
@[simp] theorem State.recover_buf (s : State) (e : Option ErrorClass) : (s.recover e).buf = s.buf := by cases e <;> rfl
@[simp] theorem State.recover_cfg (s : State) (e : Option ErrorClass) : (s.recover e).cfg = s.cfg := by cases e <;> rfl
@[simp] theorem State.recover_feed (s : State) (e : Option ErrorClass) : (s.recover e).feed = s.feed := by cases e <;> rfl
@[simp] theorem State.recover_cycle (s : State) (e : Option ErrorClass) : (s.recover e).cycle = s.cycle := by cases e <;> rfl
@[simp] theorem State.recover_accepted (s : State) (e : Option ErrorClass) : (s.recover e).accepted = s.accepted := by cases e <;> rfl
@[simp] theorem State.recover_emitted (s : State) (e : Option ErrorClass) : (s.recover e).emitted = s.emitted := by cases e <;> rfl

@[simp] theorem State.recover_raised_some (s : State) (e : ErrorClass) :
    (s.recover (some e)).raised = (s.cycle, e) :: s.raised := rfl
@[simp] theorem State.recover_raised_none (s : State) : (s.recover none).raised = s.raised := rfl

/-! ### dropPayload -/

@[simp] theorem State.dropPayload_state (s : State) (e : Option ErrorClass) : (s.dropPayload e).state = .sm := by cases e <;> rfl
@[simp] theorem State.dropPayload_lphase (s : State) (e : Option ErrorClass) : (s.dropPayload e).lphase = s.lphase := by cases e <;> rfl
@[simp] theorem State.dropPayload_mw (s : State) (e : Option ErrorClass) : (s.dropPayload e).mw = s.mw := by cases e <;> rfl
@[simp] theorem State.dropPayload_mw_cnt (s : State) (e : Option ErrorClass) : (s.dropPayload e).mw_cnt = s.mw_cnt := by cases e <;> rfl
@[simp] theorem State.dropPayload_hdr_cnt (s : State) (e : Option ErrorClass) : (s.dropPayload e).hdr_cnt = 0 := by cases e <;> rfl
@[simp] theorem State.dropPayload_hdr_hi (s : State) (e : Option ErrorClass) : (s.dropPayload e).hdr_hi = s.hdr_hi := by cases e <;> rfl
@[simp] theorem State.dropPayload_hdr_lo (s : State) (e : Option ErrorClass) : (s.dropPayload e).hdr_lo = s.hdr_lo := by cases e <;> rfl
@[simp] theorem State.dropPayload_plen (s : State) (e : Option ErrorClass) : (s.dropPayload e).plen = s.plen := by cases e <;> rfl
@[simp] theorem State.dropPayload_cursor (s : State) (e : Option ErrorClass) : (s.dropPayload e).cursor = 0 := by cases e <;> rfl
@[simp] theorem State.dropPayload_didx (s : State) (e : Option ErrorClass) : (s.dropPayload e).didx = s.didx := by cases e <;> rfl
@[simp] theorem State.dropPayload_latch_cnt (s : State) (e : Option ErrorClass) : (s.dropPayload e).latch_cnt = s.latch_cnt := by cases e <;> rfl
@[simp] theorem State.dropPayload_tick_cnt (s : State) (e : Option ErrorClass) : (s.dropPayload e).tick_cnt = s.tick_cnt := by cases e <;> rfl
@[simp] theorem State.dropPayload_idle_cnt (s : State) (e : Option ErrorClass) : (s.dropPayload e).idle_cnt = 0 := by cases e <;> rfl
@[simp] theorem State.dropPayload_buf (s : State) (e : Option ErrorClass) : (s.dropPayload e).buf = s.buf := by cases e <;> rfl
@[simp] theorem State.dropPayload_cfg (s : State) (e : Option ErrorClass) : (s.dropPayload e).cfg = s.cfg := by cases e <;> rfl
@[simp] theorem State.dropPayload_feed (s : State) (e : Option ErrorClass) : (s.dropPayload e).feed = s.feed := by cases e <;> rfl
@[simp] theorem State.dropPayload_cycle (s : State) (e : Option ErrorClass) : (s.dropPayload e).cycle = s.cycle := by cases e <;> rfl
@[simp] theorem State.dropPayload_accepted (s : State) (e : Option ErrorClass) : (s.dropPayload e).accepted = s.accepted := by cases e <;> rfl
@[simp] theorem State.dropPayload_emitted (s : State) (e : Option ErrorClass) : (s.dropPayload e).emitted = s.emitted := by cases e <;> rfl

@[simp] theorem State.dropPayload_raised_some (s : State) (e : ErrorClass) :
    (s.dropPayload (some e)).raised = (s.cycle, e) :: s.raised := rfl
@[simp] theorem State.dropPayload_raised_none (s : State) : (s.dropPayload none).raised = s.raised := rfl

/-! ### storePayload -/

@[simp] theorem State.storePayload_state (s : State) : (s.storePayload).state = s.state := by unfold State.storePayload; split <;> rfl
@[simp] theorem State.storePayload_lphase (s : State) : (s.storePayload).lphase = s.lphase := by unfold State.storePayload; split <;> rfl
@[simp] theorem State.storePayload_mw (s : State) : (s.storePayload).mw = s.mw := by unfold State.storePayload; split <;> rfl
@[simp] theorem State.storePayload_mw_cnt (s : State) : (s.storePayload).mw_cnt = s.mw_cnt := by unfold State.storePayload; split <;> rfl
@[simp] theorem State.storePayload_hdr_cnt (s : State) : (s.storePayload).hdr_cnt = s.hdr_cnt := by unfold State.storePayload; split <;> rfl
@[simp] theorem State.storePayload_hdr_hi (s : State) : (s.storePayload).hdr_hi = s.hdr_hi := by unfold State.storePayload; split <;> rfl
@[simp] theorem State.storePayload_hdr_lo (s : State) : (s.storePayload).hdr_lo = s.hdr_lo := by unfold State.storePayload; split <;> rfl
@[simp] theorem State.storePayload_plen (s : State) : (s.storePayload).plen = s.plen := by unfold State.storePayload; split <;> rfl
@[simp] theorem State.storePayload_cursor (s : State) : (s.storePayload).cursor = s.cursor := by unfold State.storePayload; split <;> rfl
@[simp] theorem State.storePayload_didx (s : State) : (s.storePayload).didx = s.didx := by unfold State.storePayload; split <;> rfl
@[simp] theorem State.storePayload_latch_cnt (s : State) : (s.storePayload).latch_cnt = s.latch_cnt := by unfold State.storePayload; split <;> rfl
@[simp] theorem State.storePayload_tick_cnt (s : State) : (s.storePayload).tick_cnt = s.tick_cnt := by unfold State.storePayload; split <;> rfl
@[simp] theorem State.storePayload_idle_cnt (s : State) : (s.storePayload).idle_cnt = s.idle_cnt := by unfold State.storePayload; split <;> rfl
@[simp] theorem State.storePayload_cfg (s : State) : (s.storePayload).cfg = s.cfg := by unfold State.storePayload; split <;> rfl
@[simp] theorem State.storePayload_feed (s : State) : (s.storePayload).feed = s.feed := by unfold State.storePayload; split <;> rfl
@[simp] theorem State.storePayload_cycle (s : State) : (s.storePayload).cycle = s.cycle := by unfold State.storePayload; split <;> rfl
@[simp] theorem State.storePayload_accepted (s : State) : (s.storePayload).accepted = s.accepted := by unfold State.storePayload; split <;> rfl
@[simp] theorem State.storePayload_emitted (s : State) : (s.storePayload).emitted = s.emitted := by unfold State.storePayload; split <;> rfl
@[simp] theorem State.storePayload_raised (s : State) : (s.storePayload).raised = s.raised := by unfold State.storePayload; split <;> rfl

theorem State.storePayload_buf (s : State) : s.storePayload.buf =
    if s.cursor.toNat < s.cfg.P_C then Memory.write s.buf s.cursor.toNat s.port.inData else s.buf := by
  unfold State.storePayload; split <;> rfl

/-! ### countIdle -/

@[simp] theorem State.countIdle_state (s : State) : (s.countIdle).state = s.state := by unfold State.countIdle; split <;> rfl
@[simp] theorem State.countIdle_lphase (s : State) : (s.countIdle).lphase = s.lphase := by unfold State.countIdle; split <;> rfl
@[simp] theorem State.countIdle_mw (s : State) : (s.countIdle).mw = s.mw := by unfold State.countIdle; split <;> rfl
@[simp] theorem State.countIdle_mw_cnt (s : State) : (s.countIdle).mw_cnt = s.mw_cnt := by unfold State.countIdle; split <;> rfl
@[simp] theorem State.countIdle_hdr_cnt (s : State) : (s.countIdle).hdr_cnt = s.hdr_cnt := by unfold State.countIdle; split <;> rfl
@[simp] theorem State.countIdle_hdr_hi (s : State) : (s.countIdle).hdr_hi = s.hdr_hi := by unfold State.countIdle; split <;> rfl
@[simp] theorem State.countIdle_hdr_lo (s : State) : (s.countIdle).hdr_lo = s.hdr_lo := by unfold State.countIdle; split <;> rfl
@[simp] theorem State.countIdle_plen (s : State) : (s.countIdle).plen = s.plen := by unfold State.countIdle; split <;> rfl
@[simp] theorem State.countIdle_cursor (s : State) : (s.countIdle).cursor = s.cursor := by unfold State.countIdle; split <;> rfl
@[simp] theorem State.countIdle_didx (s : State) : (s.countIdle).didx = s.didx := by unfold State.countIdle; split <;> rfl
@[simp] theorem State.countIdle_latch_cnt (s : State) : (s.countIdle).latch_cnt = s.latch_cnt := by unfold State.countIdle; split <;> rfl
@[simp] theorem State.countIdle_tick_cnt (s : State) : (s.countIdle).tick_cnt = s.tick_cnt := by unfold State.countIdle; split <;> rfl
@[simp] theorem State.countIdle_buf (s : State) : (s.countIdle).buf = s.buf := by unfold State.countIdle; split <;> rfl
@[simp] theorem State.countIdle_cfg (s : State) : (s.countIdle).cfg = s.cfg := by unfold State.countIdle; split <;> rfl
@[simp] theorem State.countIdle_feed (s : State) : (s.countIdle).feed = s.feed := by unfold State.countIdle; split <;> rfl
@[simp] theorem State.countIdle_cycle (s : State) : (s.countIdle).cycle = s.cycle := by unfold State.countIdle; split <;> rfl
@[simp] theorem State.countIdle_accepted (s : State) : (s.countIdle).accepted = s.accepted := by unfold State.countIdle; split <;> rfl
@[simp] theorem State.countIdle_emitted (s : State) : (s.countIdle).emitted = s.emitted := by unfold State.countIdle; split <;> rfl
@[simp] theorem State.countIdle_raised (s : State) : (s.countIdle).raised = s.raised := by unfold State.countIdle; split <;> rfl

theorem State.countIdle_idle_cnt (s : State) : s.countIdle.idle_cnt =
    if s.cfg.P_IDLE_TIMEOUT ≠ 0 then countUp (idleWidth s.cfg) s.idle_cnt else s.idle_cnt := by
  unfold State.countIdle; split <;> rfl

/-! ### The port levels -/

/-- The port levels read only the feed and the cycle count. -/
theorem State.portAt_congr {s t : State} (hf : s.feed = t.feed) (hc : s.cycle = t.cycle) (k : Nat) :
    s.portAt k = t.portAt k := by
  simp only [State.portAt, hf, hc]

theorem State.port_congr {s t : State} (hf : s.feed = t.feed) (hc : s.cycle = t.cycle) : s.port = t.port :=
  State.portAt_congr hf hc 0

/-- After the edge, the levels that were `k + 1` cycles ahead are `k` cycles ahead. -/
theorem State.portAt_endCycle (s : State) (k : Nat) : s.endCycle.portAt k = s.portAt (k + 1) := by
  simp only [State.portAt, State.endCycle_feed, State.endCycle_cycle]
  have hc : s.cycle + 1 + k = s.cycle + (k + 1) := by omega
  rw [hc]
  cases s.feed <;> simp

/-- What the feed fixes for this cycle is what the ports carry. -/
theorem State.port_of_feed {s : State} {p : PortIn} {l : List PortIn} (h : s.feed = p :: l) : s.port = p := by
  simp [State.port, State.portAt, h]

@[simp] theorem State.accept_port (s : State) : (s.accept).port = s.port := rfl
@[simp] theorem State.emit_port (s : State) (b : Byte) : (s.emit b).port = s.port := rfl
@[simp] theorem State.raise_port (s : State) (e : ErrorClass) : (s.raise e).port = s.port := rfl
@[simp] theorem State.memWrite_port (s : State) (i : Nat) (v : Byte) : (s.memWrite i v).port = s.port := rfl
@[simp] theorem State.storePayload_port (s : State) : s.storePayload.port = s.port := State.port_congr (by simp) (by simp)

end Sys2Proof.Machine
end

