-- ==== Sys2Proof/Laws/Step.lean ====
section
/-!
SUPPORT. What a step can do: it is the meaning of the operation that `rowFor` names, followed by the clock edge.
-/
namespace Sys2Proof.Machine

/-- A meaning does not look at the unread bits of its operation. -/
theorem exec_rowFor (s : State) (u v : Sel) : exec ((rowFor s).make u) s = exec ((rowFor s).make v) s := by
  unfold rowFor
  repeat' split
  all_goals rfl

/-- The edge after a meaning's answer. -/
def edge : Host.Outcome State Fault Refusal → Host.Outcome State Fault Refusal
  | .next t => .next t.endCycle
  | .fault f => .fault f
  | .refused r => .refused r

/-- A step of a legal build performs the operation that the registers and ports name. -/
theorem step_legal {s : State} (h : s.cfg.legal = true) : step s = edge (exec ((rowFor s).make 0) s) := by
  simp only [step, h, if_true, State.fetchWord, decodeSel_sel]
  rw [exec_rowFor s _ 0]
  rfl

/-- If a step answers a next state, the build is legal and some operation, the one decoded from SEL, has given it. -/
theorem step_next {s t : State} (h : step s = .next t) :
    s.cfg.legal = true ∧
      ∃ i t', decodeSel s.fetchWord = some i ∧ exec i s = .next t' ∧ t = t'.endCycle := by
  unfold step at h
  split at h
  · rename_i hl
    refine ⟨hl, ?_⟩
    split at h
    · rename_i i hi
      split at h
      · rename_i t' ht
        exact ⟨i, t', hi, ht, (Host.Outcome.next.inj h).symm⟩
      · cases h
      · cases h
    · cases h
  · cases h

/-- A step of an illegal build is refused. -/
theorem step_illegal {s : State} (h : s.cfg.legal = false) : step s = .refused .illegalBuild := by
  simp [step, h]

end Sys2Proof.Machine
end

