-- ==== Sys2Proof/Laws/StepCases.lean ====
section
/-!
SUPPORT. Every step that answers a next state, case by case: which operation, under which registers and ports, and the
whole state it leaves. Later proofs take a step apart with `cases step_cases h`.
-/
namespace Sys2Proof.Machine

/-- `StepCase s t`: the cycle of `s` leaves `t`. -/
inductive StepCase (s : State) : State → Prop where
  | reset (hr : s.port.rst = true) :
    StepCase s { s with
      state := .sm, lphase := .drain, mw := 0x000000, mw_cnt := 0, hdr_cnt := 0, hdr_hi := 0x00, hdr_lo := 0x00
      plen := 0, cursor := 0, didx := 0, latch_cnt := 0, tick_cnt := 0, idle_cnt := 0
      feed := s.feed.tail, cycle := s.cycle + 1 }
  | seekIdle (hr : s.port.rst = false) (hs : s.state = .sm) (hv : s.port.inValid = false) :
    StepCase s { s with
      feed := s.feed.tail, cycle := s.cycle + 1 }
  | seekShift (hr : s.port.rst = false) (hs : s.state = .sm) (hv : s.port.inValid = true) (hm : mmatch s = false) :
    StepCase s { s with
      mw := shiftWindow s.mw s.port.inData, mw_cnt := countByte s.mw_cnt
      accepted := (s.cycle, s.port.inData) :: s.accepted
      raised := (s.cycle, .syncLoss) :: s.raised
      feed := s.feed.tail, cycle := s.cycle + 1 }
  | seekMatch (hr : s.port.rst = false) (hs : s.state = .sm) (hv : s.port.inValid = true) (hm : mmatch s = true) :
    StepCase s { s with
      mw := 0x000000, mw_cnt := 0, hdr_cnt := 0, idle_cnt := 0, state := .rh
      accepted := (s.cycle, s.port.inData) :: s.accepted
      feed := s.feed.tail, cycle := s.cycle + 1 }
  | hdrWait (hr : s.port.rst = false) (hs : s.state = .rh) (hv : s.port.inValid = false) (hi : idleEnd s = false) :
    StepCase s { s with
      idle_cnt := if s.cfg.P_IDLE_TIMEOUT ≠ 0 then countUp (idleWidth s.cfg) s.idle_cnt else s.idle_cnt
      feed := s.feed.tail, cycle := s.cycle + 1 }
  | hdrHi (hr : s.port.rst = false) (hs : s.state = .rh) (hv : s.port.inValid = true) (hc : s.hdr_cnt = 0) :
    StepCase s { s with
      hdr_hi := s.port.inData, hdr_cnt := 1, idle_cnt := 0
      accepted := (s.cycle, s.port.inData) :: s.accepted
      feed := s.feed.tail, cycle := s.cycle + 1 }
  | hdrLo (hr : s.port.rst = false) (hs : s.state = .rh) (hv : s.port.inValid = true) (hc : s.hdr_cnt = 1) :
    StepCase s { s with
      hdr_lo := s.port.inData, hdr_cnt := 2, idle_cnt := 0
      accepted := (s.cycle, s.port.inData) :: s.accepted
      feed := s.feed.tail, cycle := s.cycle + 1 }
  | hdrChkOk (hr : s.port.rst = false) (hs : s.state = .rh) (hv : s.port.inValid = true)
      (hc : s.hdr_cnt = 2) (hk : chkOk s = true) (ho : rejOver s = false) :
    StepCase s { s with
      plen := payloadLength s.hdr_hi s.hdr_lo, cursor := 0, hdr_cnt := 0, idle_cnt := 0, state := .rp
      accepted := (s.cycle, s.port.inData) :: s.accepted
      feed := s.feed.tail, cycle := s.cycle + 1 }
  | hdrChkBad (hr : s.port.rst = false) (hs : s.state = .rh) (hv : s.port.inValid = true)
      (hc : s.hdr_cnt = 2) (hk : chkOk s = false) :
    StepCase s { s with
      hdr_cnt := 0, idle_cnt := 0, state := .sm
      accepted := (s.cycle, s.port.inData) :: s.accepted
      raised := (s.cycle, .checksumMismatch) :: s.raised
      feed := s.feed.tail, cycle := s.cycle + 1 }
  | hdrOversize (hr : s.port.rst = false) (hs : s.state = .rh) (hv : s.port.inValid = true)
      (hc : s.hdr_cnt = 2) (hk : chkOk s = true) (ho : rejOver s = true) :
    StepCase s { s with
      hdr_cnt := 0, idle_cnt := 0, state := .sm
      accepted := (s.cycle, s.port.inData) :: s.accepted
      raised := (s.cycle, .oversizedFrame) :: s.raised
      feed := s.feed.tail, cycle := s.cycle + 1 }
  | hdrRsvd (hr : s.port.rst = false) (hs : s.state = .rh) (hv : s.port.inValid = true) (hc : s.hdr_cnt = 3) :
    StepCase s { s with
      hdr_cnt := 0, idle_cnt := 0, state := .sm
      accepted := (s.cycle, s.port.inData) :: s.accepted
      feed := s.feed.tail, cycle := s.cycle + 1 }
  | hdrTimeout (hr : s.port.rst = false) (hs : s.state = .rh) (hv : s.port.inValid = false) (hi : idleEnd s = true) :
    StepCase s { s with
      hdr_cnt := 0, idle_cnt := 0, state := .sm
      raised := (s.cycle, .stalledTransport) :: s.raised
      feed := s.feed.tail, cycle := s.cycle + 1 }
  | payWait (hr : s.port.rst = false) (hs : s.state = .rp) (hv : s.port.inValid = false) (hi : idleEnd s = false) :
    StepCase s { s with
      idle_cnt := if s.cfg.P_IDLE_TIMEOUT ≠ 0 then countUp (idleWidth s.cfg) s.idle_cnt else s.idle_cnt
      feed := s.feed.tail, cycle := s.cycle + 1 }
  | payTimeout (hr : s.port.rst = false) (hs : s.state = .rp) (hv : s.port.inValid = false) (hi : idleEnd s = true) :
    StepCase s { s with
      cursor := 0, hdr_cnt := 0, idle_cnt := 0, state := .sm
      raised := (s.cycle, .stalledTransport) :: s.raised
      feed := s.feed.tail, cycle := s.cycle + 1 }
  | payStore (hr : s.port.rst = false) (hs : s.state = .rp) (hv : s.port.inValid = true) (hl : payLast s = false) :
    StepCase s { s with
      buf := if s.cursor.toNat < s.cfg.P_C then Memory.write s.buf s.cursor.toNat s.port.inData else s.buf
      cursor := s.cursor + 1, idle_cnt := 0
      accepted := (s.cycle, s.port.inData) :: s.accepted
      feed := s.feed.tail, cycle := s.cycle + 1 }
  | payLast (hr : s.port.rst = false) (hs : s.state = .rp) (hv : s.port.inValid = true) (hl : payLast s = true) :
    StepCase s { s with
      buf := if s.cursor.toNat < s.cfg.P_C then Memory.write s.buf s.cursor.toNat s.port.inData else s.buf
      cursor := s.cursor + 1, idle_cnt := 0, didx := 0, lphase := .drain, state := .la
      accepted := (s.cycle, s.port.inData) :: s.accepted
      feed := s.feed.tail, cycle := s.cycle + 1 }
  | drainWait (hr : s.port.rst = false) (hs : s.state = .la) (hp : s.lphase = .drain) (ho : s.port.outReady = false) :
    StepCase s { s with
      feed := s.feed.tail, cycle := s.cycle + 1 }
  | drainEmit (hr : s.port.rst = false) (hs : s.state = .la) (hp : s.lphase = .drain)
      (ho : s.port.outReady = true) (hl : drainLast s = false) (hd : s.didx.toNat < s.cfg.P_C) :
    StepCase s { s with
      didx := s.didx + 1
      emitted := (s.cycle, s.bufAt s.didx.toNat) :: s.emitted
      feed := s.feed.tail, cycle := s.cycle + 1 }
  | drainLast (hr : s.port.rst = false) (hs : s.state = .la) (hp : s.lphase = .drain)
      (ho : s.port.outReady = true) (hl : drainLast s = true) (hd : s.didx.toNat < s.cfg.P_C) :
    StepCase s { s with
      didx := 0, lphase := .settle, tick_cnt := 0, latch_cnt := 0
      emitted := (s.cycle, s.bufAt s.didx.toNat) :: s.emitted
      feed := s.feed.tail, cycle := s.cycle + 1 }
  | settleCycle (hr : s.port.rst = false) (hs : s.state = .la) (hp : s.lphase = .settle) (ht : tickEnd s = false) :
    StepCase s { s with
      tick_cnt := countUp (tickWidth s.cfg) s.tick_cnt
      feed := s.feed.tail, cycle := s.cycle + 1 }
  | settleTick (hr : s.port.rst = false) (hs : s.state = .la) (hp : s.lphase = .settle) (ht : tickEnd s = true)
      (hl : latchEnd s = false) :
    StepCase s { s with
      tick_cnt := 0, latch_cnt := countUp (latchWidth s.cfg) s.latch_cnt
      feed := s.feed.tail, cycle := s.cycle + 1 }
  | settleDone (hr : s.port.rst = false) (hs : s.state = .la) (hp : s.lphase = .settle) (ht : tickEnd s = true)
      (hl : latchEnd s = true) :
    StepCase s { s with
      tick_cnt := 0, latch_cnt := 0, cursor := 0, lphase := .drain, state := .sm
      feed := s.feed.tail, cycle := s.cycle + 1 }

/-- Counting an idle cycle, as one record update. -/
theorem countIdle_eq (s : State) : s.countIdle = { s with
    idle_cnt := if s.cfg.P_IDLE_TIMEOUT ≠ 0 then countUp (idleWidth s.cfg) s.idle_cnt else s.idle_cnt } := by
  unfold State.countIdle
  split <;> rfl

/-- Accepting and storing a payload byte, as one record update. -/
theorem accept_storePayload_eq (s : State) : s.accept.storePayload = { s with
    buf := if s.cursor.toNat < s.cfg.P_C then Memory.write s.buf s.cursor.toNat s.port.inData else s.buf
    accepted := (s.cycle, s.port.inData) :: s.accepted } := by
  unfold State.storePayload
  split
  · rw [if_pos (by assumption)]
    rfl
  · rw [if_neg (by assumption)]
    rfl

/-- A drain operation that answers a next state has an index of the buffer. -/
theorem drainEmit_next {s t : State} (h : execDrainEmit s = .next t) : s.didx.toNat < s.cfg.P_C ∧
    t = { s with didx := s.didx + 1, emitted := (s.cycle, s.bufAt s.didx.toNat) :: s.emitted } := by
  unfold execDrainEmit State.memRead at h
  split at h
  · rename_i b hb
    split at hb
    · cases hb
      exact ⟨‹_›, (Host.Outcome.next.inj h).symm⟩
    · cases hb
  · cases h

theorem drainLast_next {s t : State} (h : execDrainLast s = .next t) : s.didx.toNat < s.cfg.P_C ∧
    t = { s with
      didx := 0, lphase := .settle, tick_cnt := 0, latch_cnt := 0
      emitted := (s.cycle, s.bufAt s.didx.toNat) :: s.emitted } := by
  unfold execDrainLast State.memRead at h
  split at h
  · rename_i b hb
    split at hb
    · cases hb
      exact ⟨‹_›, (Host.Outcome.next.inj h).symm⟩
    · cases hb
  · cases h

/-- A step that answers a next state is one of the cases. -/
theorem step_cases {s t : State} (h : step s = .next t) : StepCase s t := by
  have hl := (step_next h).1
  rw [step_legal hl] at h
  have hc : s.hdr_cnt ≠ 0 → s.hdr_cnt ≠ 1 → s.hdr_cnt ≠ 2 → s.hdr_cnt = 3 := by
    generalize s.hdr_cnt = n
    revert n
    decide
  have key : ∀ {o : Host.Outcome State Fault Refusal}, edge o = .next t → ∃ t', o = .next t' ∧ t = t'.endCycle := by
    intro o ho
    cases o with
    | next t' => exact ⟨t', rfl, (Host.Outcome.next.inj ho).symm⟩
    | fault f => cases ho
    | refused r => cases ho
  obtain ⟨t', he, rfl⟩ := key h
  clear h key
  have hre : ∀ {b : Bool}, ¬b = true → b = false := fun hb => Bool.eq_false_iff.2 hb
  revert he
  unfold rowFor
  repeat' split
  · intro he; injection he with he; subst he; exact .reset ‹_›
  · intro he; injection he with he; subst he; exact .seekMatch (hre ‹_›) ‹_› ‹_› ‹_›
  · intro he; injection he with he; subst he; exact .seekShift (hre ‹_›) ‹_› ‹_› (hre ‹_›)
  · intro he; injection he with he; subst he; exact .seekIdle (hre ‹_›) ‹_› (hre ‹_›)
  · intro he; injection he with he; subst he; exact .hdrHi (hre ‹_›) ‹_› ‹_› ‹_›
  · intro he; injection he with he; subst he; exact .hdrLo (hre ‹_›) ‹_› ‹_› ‹s.hdr_cnt = 1›
  · intro he; injection he with he; subst he; exact .hdrOversize (hre ‹_›) ‹_› ‹_› ‹s.hdr_cnt = 2› ‹_› ‹_›
  · intro he; injection he with he; subst he; exact .hdrChkOk (hre ‹_›) ‹_› ‹_› ‹s.hdr_cnt = 2› ‹_› (hre ‹_›)
  · intro he; injection he with he; subst he; exact .hdrChkBad (hre ‹_›) ‹_› ‹_› ‹s.hdr_cnt = 2› (hre ‹_›)
  · intro he; injection he with he; subst he; exact .hdrRsvd (hre ‹_›) ‹_› ‹_› (hc ‹_› ‹_› ‹_›)
  · intro he; injection he with he; subst he; exact .hdrTimeout (hre ‹_›) ‹_› (hre ‹_›) ‹_›
  · intro he
    have ht : t' = s.countIdle := (Host.Outcome.next.inj he).symm
    rw [ht, countIdle_eq]
    exact .hdrWait (hre ‹_›) ‹_› (hre ‹_›) (hre ‹_›)
  · intro he
    have ht := (Host.Outcome.next.inj he).symm
    rw [accept_storePayload_eq] at ht
    subst ht
    exact .payLast (hre ‹_›) ‹_› ‹_› ‹_›
  · intro he
    have ht := (Host.Outcome.next.inj he).symm
    rw [accept_storePayload_eq] at ht
    subst ht
    exact .payStore (hre ‹_›) ‹_› ‹_› (hre ‹_›)
  · intro he; injection he with he; subst he; exact .payTimeout (hre ‹_›) ‹_› (hre ‹_›) ‹_›
  · intro he
    have ht : t' = s.countIdle := (Host.Outcome.next.inj he).symm
    rw [ht, countIdle_eq]
    exact .payWait (hre ‹_›) ‹_› (hre ‹_›) (hre ‹_›)
  · intro he
    obtain ⟨hd, he⟩ := drainLast_next he
    subst he
    exact .drainLast (hre ‹_›) ‹_› ‹_› ‹_› ‹_› hd
  · intro he
    obtain ⟨hd, he⟩ := drainEmit_next he
    subst he
    exact .drainEmit (hre ‹_›) ‹_› ‹_› ‹_› (hre ‹_›) hd
  · intro he; injection he with he; subst he; exact .drainWait (hre ‹_›) ‹_› ‹_› (hre ‹_›)
  · intro he; injection he with he; subst he; exact .settleDone (hre ‹_›) ‹_› ‹_› ‹_› ‹_›
  · intro he; injection he with he; subst he; exact .settleTick (hre ‹_›) ‹_› ‹_› ‹_› (hre ‹_›)
  · intro he; injection he with he; subst he; exact .settleCycle (hre ‹_›) ‹_› ‹_› (hre ‹_›)

/-- A step of a legal build answers a next state, but for a drain whose index the PixelBuffer does not have. -/
theorem step_isNext {s : State} (hl : s.cfg.legal = true)
    (hd : s.state = .la → s.lphase = .drain → s.didx.toNat < s.cfg.P_C) : ∃ t, step s = .next t := by
  rw [step_legal hl]
  unfold rowFor
  repeat' split
  all_goals
    first
    | exact ⟨_, rfl⟩
    | have hlt := hd ‹_› ‹_›
      have hm : s.memRead s.didx.toNat = some (s.bufAt s.didx.toNat) := if_pos hlt
      first
      | exact ⟨_, by change edge (execDrainLast s) = _; rw [execDrainLast, hm]; rfl⟩
      | exact ⟨_, by change edge (execDrainEmit s) = _; rw [execDrainEmit, hm]; rfl⟩

/-- A step moves the environment one cycle on and keeps the build. -/
theorem step_frame {s t : State} (h : step s = .next t) :
    t.feed = s.feed.tail ∧ t.cycle = s.cycle + 1 ∧ t.cfg = s.cfg := by
  cases step_cases h <;> exact ⟨rfl, rfl, rfl⟩

/-- The port levels k cycles after a step are those k + 1 cycles after the state it started from. -/
theorem step_portAt {s t : State} (h : step s = .next t) (k : Nat) : t.portAt k = s.portAt (k + 1) := by
  obtain ⟨hf, hc, -⟩ := step_frame h
  have hk : s.cycle + 1 + k = s.cycle + (k + 1) := by omega
  simp only [State.portAt, hf, hc, hk, List.getElem?_tail]

end Sys2Proof.Machine
end

