-- ==== Sys2Proof/Laws/Width.lean ====
section
/-!
SUPPORT. A counter register is wide enough for its range (spec/00_scope.md R15), so it does not wrap below its end.
-/
namespace Sys2Proof.Machine

/-- `n` values fit in `⌈log2 n⌉` bits. -/
theorem le_two_pow_ceilLog2 (n : Nat) : n ≤ 2 ^ ceilLog2 n := by
  unfold ceilLog2
  split
  · simpa using ‹n ≤ 1›
  · have h : n - 1 < 2 ^ (Nat.log2 (n - 1) + 1) := Nat.lt_log2_self
    omega

/-- A counter below its end `n` counts up without wrapping in a register at least `⌈log2 n⌉` bits wide. -/
theorem countUp_eq {n k w : Nat} (hk : k + 1 < n) (hw : ceilLog2 n ≤ w) : countUp w k = k + 1 := by
  have h := le_two_pow_ceilLog2 n
  have hp : 2 ^ ceilLog2 n ≤ 2 ^ w := Nat.pow_le_pow_right (by decide) hw
  exact Nat.mod_eq_of_lt (by omega)

theorem tick_countUp {c : Params} {k : Nat} (h : k + 1 < c.P_TICK_CYCLES) : countUp (tickWidth c) k = k + 1 :=
  countUp_eq h (Nat.le_max_right _ _)

theorem latch_countUp {c : Params} {k : Nat} (h : k + 1 < c.P_LATCH_TICKS) : countUp (latchWidth c) k = k + 1 :=
  countUp_eq h (Nat.le_max_right _ _)

theorem idle_countUp {c : Params} {k : Nat} (h : k + 1 < c.P_IDLE_TIMEOUT) : countUp (idleWidth c) k = k + 1 :=
  countUp_eq (Nat.lt_of_lt_of_le h (Nat.le_max_left _ 1)) (Nat.le_max_right _ _)

/-- The length of a payload as a natural number (R74): 18 bits do not overflow. -/
theorem payloadLength_toNat (hi lo : Byte) :
    (payloadLength hi lo).toNat = 3 * (256 * hi.toNat + lo.toNat + 1) := by
  have hh := hi.isLt
  have hl := lo.isLt
  have hp : (pixelCount hi lo).toNat = 256 * hi.toNat + lo.toNat := by
    rw [pixelCount, BitVec.toNat_append, Nat.shiftLeft_eq, Nat.mul_comm, ← Nat.two_pow_add_eq_or_of_lt hl]
  have h3 : (3 : Len).toNat = 3 := rfl
  have h1 : (1 : Len).toNat = 1 := rfl
  simp only [payloadLength, BitVec.toNat_mul, BitVec.toNat_add, BitVec.toNat_setWidth, hp, h3, h1]
  omega

end Sys2Proof.Machine
end

