-- ==== Sys2Proof/Laws/Window.lean ====
section
/-!
SUPPORT. The slots of the marker window after a byte is shifted in (spec/10_state.md R33; spec/40_sync.md R101).
-/
namespace Sys2Proof.Machine

/-- Slot 0 is the byte shifted in. -/
theorem slotAt_shiftWindow_zero (w : Window) (b : Byte) : slotAt (shiftWindow w b) 0 = b := by
  simp only [slotAt, slot0, shiftWindow, if_pos]
  apply BitVec.eq_of_getLsbD_eq
  intro k hk
  simp [BitVec.getLsbD_append (n := 16) (m := 8), hk]

/-- Slot 1 is what slot 0 was. -/
theorem slotAt_shiftWindow_one (w : Window) (b : Byte) : slotAt (shiftWindow w b) 1 = slotAt w 0 := by
  simp only [slotAt, slot0, slot1, shiftWindow]
  apply BitVec.eq_of_getLsbD_eq
  intro k hk
  have h1 : ¬8 + k < 8 := by omega
  simp [BitVec.getLsbD_append (n := 16) (m := 8), BitVec.getLsbD_append (n := 8) (m := 8), hk, h1]

/-- Slot 2 is what slot 1 was. -/
theorem slotAt_shiftWindow_two (w : Window) (b : Byte) : slotAt (shiftWindow w b) 2 = slotAt w 1 := by
  simp only [slotAt, slot0, slot1, slot2, shiftWindow]
  apply BitVec.eq_of_getLsbD_eq
  intro k hk
  have h1 : ¬16 + k < 8 := by omega
  have h2 : ¬16 + k - 8 < 8 := by omega
  have h3 : 16 + k - 8 - 8 = k := by omega
  simp [BitVec.getLsbD_append (n := 16) (m := 8), BitVec.getLsbD_append (n := 8) (m := 8), hk, h1, h2, h3]

end Sys2Proof.Machine
end

