-- ==== Sys2Proof/Machine/Stream.lean ====
section
/-!
DEFINITION. The environment of a test stream: the line notation of spec/30_encoding.md R95 with its expansions, and the
transport and sink that drive the ports from it (spec/70_reset_and_hazards.md R196; spec/10_state.md R26). The step
does not use it: any other environment may drive the ports.
-/
namespace Sys2Proof.Machine

/-- One line of a test stream (R95). -/
inductive Item where
  /-- `MAGIC`. -/
  | magic
  /-- `HDR n`: a header with a valid checksum. -/
  | hdr (n : BitVec 16)
  /-- `HDRX n c`: a header with the checksum byte c. -/
  | hdrx (n : BitVec 16) (c : Byte)
  /-- `BYTES b0 b1 …`. -/
  | bytes (bs : List Byte)
  /-- `IDLE k`: no byte for k cycles in which the block is ready. -/
  | idle (k : Nat)
  /-- `FRAME p0 … p(L-1)`. -/
  | frame (ps : List Byte)
deriving DecidableEq, Repr

/-- `n[15:8]`. -/
def hiByte (n : BitVec 16) : Byte := n.extractLsb' 8 8

/-- `n[7:0]`. -/
def loByte (n : BitVec 16) : Byte := n.extractLsb' 0 8

/-- The bytes of `MAGIC` (R95). -/
def magicBytes (c : Params) : List Byte := [c.P_M0, c.P_M1, c.P_M2]

/-- The bytes of `HDR n` (R72, R95). -/
def headerBytes (c : Params) (n : BitVec 16) : List Byte := [hiByte n, loByte n, checksum c (hiByte n) (loByte n)]

/-- The bytes of a frame with payload `ps` (R70, R95). -/
def frameBytes (c : Params) (ps : List Byte) : List Byte :=
  magicBytes c ++ headerBytes c (BitVec.ofNat 16 (ps.length / 3 - 1)) ++ ps

/-- `FRAME` needs L a multiple of 3 and at least 3, and a header can state at most 196608 (R74, R95). -/
def Item.wf : Item → Bool
  | .frame ps => ps.length % 3 == 0 && decide (3 ≤ ps.length) && decide (ps.length ≤ 196608)
  | .magic | .hdr _ | .hdrx _ _ | .bytes _ | .idle _ => true

/-- What the source presents for a line: bytes, and `none` for a cycle with nothing offered (R95). -/
def Item.expand (c : Params) : Item → List (Option Byte)
  | .magic => (magicBytes c).map some
  | .hdr n => (headerBytes c n).map some
  | .hdrx n x => [some (hiByte n), some (loByte n), some x]
  | .bytes bs => bs.map some
  | .idle k => List.replicate k none
  | .frame ps => (frameBytes c ps).map some

/-- What the source presents for a stream (R95). -/
def expandStream (c : Params) (items : List Item) : List (Option Byte) := items.flatMap (Item.expand c)

/-- A source and a sink: what the source has still to present, and the out_ready levels of the coming cycles in which
out_valid is 1 (1 in every cycle after them, R95). -/
structure Bench where
  offers : List (Option Byte)
  ordy : List Bool
deriving DecidableEq, Repr

/-- The port levels that the bench drives in the cycle of `s`, with rst at `rst`: the first offer is presented, in_data
is 0 where no byte is, and out_ready is 1 where out_valid is 0 (spec/95_test_vectors.md section 0). -/
def Bench.drive (b : Bench) (s : State) (rst : Bool) : PortIn where
  rst := rst
  inValid := (b.offers.head?.join).isSome
  inData := (b.offers.head?.join).getD 0x00
  outReady := if !rst && s.state = .la && s.lphase = .drain then b.ordy.head?.getD true else true

/-- The bench after the cycle of `s`: an offer is withdrawn only in a cycle in which the block was ready (R95, R196),
and an out_ready level is used up only in a cycle with out_valid = 1 (R95). -/
def Bench.after (b : Bench) (s : State) : Bench where
  offers := if inReady s then b.offers.tail else b.offers
  ordy := if outValid s then b.ordy.tail else b.ordy

/-- The state `s` with the bench's levels on its ports in this cycle. -/
def State.drivenBy (s : State) (b : Bench) (rst : Bool) : State := { s with feed := [b.drive s rst] }

end Sys2Proof.Machine
end

