-- ==== Sys2Proof/Tests/Slice0.lean ====
section
/-!
SUPPORT. The model's own tests. Expected values come from the spec: spec/30_encoding.md R88 and R96, spec/opcode_table.json
and spec/95_test_vectors.md (the id of the vector stands in the name). Then the witnesses: concrete states that meet the
hypotheses of the statements in Certificates/Slice0/Obligations.lean.
-/
namespace Sys2Proof.Tests
open Sys2Proof Sys2Proof.Machine

/-! ### Well-formedness: an ill-formed term for each check -/

theorem test_wf_reset_refuses_bit_15 : (Instr.reset 0x8000).wf = false := by decide
theorem test_wf_seekIdle_refuses_in_valid : (Instr.seekIdle 0x0200).wf = false := by decide
theorem test_wf_settleDone_accepts_unread_bits : (Instr.settleDone 0x0FF9).wf = true := by decide

/-- The parameters of spec/95_test_vectors.md section 0. -/
def vec : Params where
  P_C := 1500
  P_K := 0x56
  P_M0 := 0x41
  P_M1 := 0x64
  P_M2 := 0x61
  P_LATCH_TICKS := 5
  P_TICK_CYCLES := 2
  P_OVERSIZE := .reject
  P_IDLE_TIMEOUT := 0

theorem test_build_of_the_vectors_is_legal : vec.legal = true := by decide
theorem test_build_refuses_capacity_2 : ({ vec with P_C := 2 } : Params).legal = false := by decide
theorem test_build_refuses_capacity_196609 : ({ vec with P_C := 196609 } : Params).legal = false := by decide
theorem test_build_accepts_capacity_3 : ({ vec with P_C := 3 } : Params).legal = true := by decide
theorem test_build_accepts_capacity_196608 : ({ vec with P_C := 196608 } : Params).legal = true := by decide
theorem test_build_refuses_no_latch_tick : ({ vec with P_LATCH_TICKS := 0 } : Params).legal = false := by decide
theorem test_build_refuses_no_tick_cycle : ({ vec with P_TICK_CYCLES := 0 } : Params).legal = false := by decide
theorem test_stream_refuses_frame_of_4_bytes : (Item.frame [1, 2, 3, 4]).wf = false := by decide
theorem test_stream_refuses_empty_frame : (Item.frame []).wf = false := by decide

/-! ### Decoding: a word of every row, written out from its pattern in R88 -/

/-- `1xxxxxxxxxxxxxxx`. -/
theorem test_decode_RESET : decodeSel 0b1101010101010101 = some (.reset 0b0101010101010101) := by decide
/-- `000xxx0xxxxxxxxx`. -/
theorem test_decode_SEEK_IDLE : decodeSel 0b0001010010101010 = some (.seekIdle 0b0001010010101010) := by decide
/-- `000xxx1x0xxxxxxx`. -/
theorem test_decode_SEEK_SHIFT : decodeSel 0b0001011001010101 = some (.seekShift 0b0001010001010101) := by decide
/-- `000xxx1x1xxxxxxx`. -/
theorem test_decode_SEEK_MATCH : decodeSel 0b0001011011010101 = some (.seekMatch 0b0001010001010101) := by decide
/-- `001xxx0xxxxxxxx0`. -/
theorem test_decode_HDR_WAIT : decodeSel 0b0011010010101010 = some (.hdrWait 0b0001010010101010) := by decide
/-- `001x001xxxxxxxxx`. -/
theorem test_decode_HDR_HI : decodeSel 0b0011001010101010 = some (.hdrHi 0b0001000010101010) := by decide
/-- `001x011xxxxxxxxx`. -/
theorem test_decode_HDR_LO : decodeSel 0b0011011010101010 = some (.hdrLo 0b0001000010101010) := by decide
/-- `001x101xx10xxxxx`. -/
theorem test_decode_HDR_CHK_OK : decodeSel 0b0011101011001010 = some (.hdrChkOk 0b0001000010001010) := by decide
/-- `001x101xx0xxxxxx`. -/
theorem test_decode_HDR_CHK_BAD : decodeSel 0b0011101010010101 = some (.hdrChkBad 0b0001000010010101) := by decide
/-- `001x101xx11xxxxx`. -/
theorem test_decode_HDR_OVERSIZE : decodeSel 0b0011101011101010 = some (.hdrOversize 0b0001000010001010) := by decide
/-- `001x111xxxxxxxxx`. -/
theorem test_decode_HDR_RSVD : decodeSel 0b0011111010101010 = some (.hdrRsvd 0b0001000010101010) := by decide
/-- `001xxx0xxxxxxxx1`. -/
theorem test_decode_HDR_TIMEOUT : decodeSel 0b0011010010101011 = some (.hdrTimeout 0b0001010010101010) := by decide
/-- `010xxx0xxxxxxxx0`. -/
theorem test_decode_PAY_WAIT : decodeSel 0b0101010010101010 = some (.payWait 0b0001010010101010) := by decide
/-- `010xxx0xxxxxxxx1`. -/
theorem test_decode_PAY_TIMEOUT : decodeSel 0b0101010010101011 = some (.payTimeout 0b0001010010101010) := by decide
/-- `010xxx1xxxx0xxxx`. -/
theorem test_decode_PAY_STORE : decodeSel 0b0101011010100101 = some (.payStore 0b0001010010100101) := by decide
/-- `010xxx1xxxx1xxxx`. -/
theorem test_decode_PAY_LAST : decodeSel 0b0101011010110101 = some (.payLast 0b0001010010100101) := by decide
/-- `0110xxx0xxxxxxxx`. -/
theorem test_decode_DRAIN_WAIT : decodeSel 0b0110101001010101 = some (.drainWait 0b0000101001010101) := by decide
/-- `0110xxx1xxxx0xxx`. -/
theorem test_decode_DRAIN_EMIT : decodeSel 0b0110101101010010 = some (.drainEmit 0b0000101001010010) := by decide
/-- `0110xxx1xxxx1xxx`. -/
theorem test_decode_DRAIN_LAST : decodeSel 0b0110101101011010 = some (.drainLast 0b0000101001010010) := by decide
/-- `0111xxxxxxxxx0xx`. -/
theorem test_decode_SETTLE_CYCLE : decodeSel 0b0111101010101001 = some (.settleCycle 0b0000101010101001) := by decide
/-- `0111xxxxxxxxx10x`. -/
theorem test_decode_SETTLE_TICK : decodeSel 0b0111101010101100 = some (.settleTick 0b0000101010101000) := by decide
/-- `0111xxxxxxxxx11x`. -/
theorem test_decode_SETTLE_DONE : decodeSel 0b0111101010101110 = some (.settleDone 0b0000101010101000) := by decide

theorem test_decode_bytes_low_byte_first : decodeBytes [0x61, 0xAB] = .ok (.reset 0x2B61) := by decide
theorem test_decode_refuses_one_byte : decodeBytes [0x00] = .error .truncated := by decide
theorem test_decode_refuses_three_bytes : decodeBytes [0x00, 0x00, 0x00] = .error .trailing := by decide
theorem test_decode_table_word : decodeTableWord 16 0x7006 = some (.settleDone 0x0000) := by decide

/-- The masks and matches of spec/opcode_table.json, row by row. -/
theorem test_rows_are_the_opcode_table : rows.map (fun r => (r.mask, r.pattern)) =
    [(0x8000, 0x8000), (0xE200, 0x0000), (0xE280, 0x0200), (0xE280, 0x0280), (0xE201, 0x2000)] ++
    [(0xEE00, 0x2200), (0xEE00, 0x2600), (0xEE60, 0x2A40), (0xEE40, 0x2A00), (0xEE60, 0x2A60)] ++
    [(0xEE00, 0x2E00), (0xE201, 0x2001), (0xE201, 0x4000), (0xE201, 0x4001), (0xE210, 0x4200)] ++
    [(0xE210, 0x4210), (0xF100, 0x6000), (0xF108, 0x6100), (0xF108, 0x6108), (0xF004, 0x7000)] ++
    [(0xF006, 0x7004), (0xF006, 0x7006)] := by decide

/-- No two rows match the same word (R89): each pair has a bit that both read and in which they differ. -/
theorem test_rows_do_not_overlap :
    rows.Pairwise fun a b => (a.pattern ^^^ b.pattern) &&& a.mask &&& b.mask ≠ 0 := by decide

/-! ### One step -/

/-- Ports with a byte offered. -/
def offer (b : Byte) : PortIn := ⟨false, true, b, true⟩

/-- Ports with nothing offered and out_ready at `r`. -/
def quiet (r : Bool) : PortIn := ⟨false, false, 0x00, r⟩

/-- s_0 of the build `c`, with `p` on the ports in this cycle. -/
def start (c : Params) (p : PortIn) : State := State.boot c [p]

/-- The selector word of the cycle is `w`, and the step leaves the registers, PixelBuffer and build of `t`. -/
def gives (s : State) (w : Sel) (t : State) : Bool :=
  sel s == w &&
    match step s with
    | .next u => u.view == t.view
    | .fault _ => false
    | .refused _ => false

theorem test_RESET_R1 : gives { start vec (⟨true, false, 0x00, true⟩) with
      state := .la, plen := 3, cursor := 3, didx := 1, buf := [(0, 0xAA), (1, 0xBB), (2, 0xCC)] } 0xE100
    { start vec (⟨true, false, 0x00, true⟩) with
      state := .sm, plen := 0, cursor := 0, didx := 0, buf := [(0, 0xAA), (1, 0xBB), (2, 0xCC)], lphase := .drain
      mw := 0, mw_cnt := 0, hdr_cnt := 0, hdr_hi := 0, hdr_lo := 0, idle_cnt := 0 } = true := by decide
theorem test_RESET_R2 : gives { start { vec with P_IDLE_TIMEOUT := 3 } (⟨true, true, 0x55, true⟩) with
      state := .rh, hdr_cnt := 2, hdr_hi := 0x05, hdr_lo := 0x06, idle_cnt := 2 } 0xAB61
    { start { vec with P_IDLE_TIMEOUT := 3 } (⟨true, true, 0x55, true⟩) with
      state := .sm, hdr_cnt := 0, hdr_hi := 0, hdr_lo := 0, idle_cnt := 0, lphase := .drain, mw := 0, mw_cnt := 0
      plen := 0, cursor := 0, didx := 0 } = true := by decide
theorem test_SEEK_IDLE_S1 : gives (start vec (quiet true)) 0x0100
    (start vec (quiet true)) = true := by decide
theorem test_SEEK_SHIFT_S4 : gives { start { vec with P_M0 := 0x00 } (offer 0x61) with
      mw_cnt := 1, mw := 0x000064 } 0x0300
    { start { vec with P_M0 := 0x00 } (offer 0x61) with
      mw_cnt := 2, mw := 0x006461 } = true := by decide
theorem test_SEEK_SHIFT_S7 : gives { start vec (offer 0x64) with
      mw_cnt := 3, mw := 0x416441 } 0x0300
    { start vec (offer 0x64) with
      mw_cnt := 3, mw := 0x644164 } = true := by decide
theorem test_SEEK_MATCH_S6 : gives { start vec (offer 0x61) with
      mw_cnt := 3, mw := 0x784164 } 0x0380
    { start vec (offer 0x61) with
      mw_cnt := 0, mw := 0, state := .rh } = true := by decide
theorem test_SEEK_MATCH_S10 : gives { start { vec with P_M0 := 0x00, P_M1 := 0x00 } (offer 0x61) with
      mw_cnt := 2 } 0x0380
    { start { vec with P_M0 := 0x00, P_M1 := 0x00 } (offer 0x61) with
      mw_cnt := 0, state := .rh } = true := by decide
theorem test_HDR_WAIT_H1 : gives { start vec (quiet true) with
      state := .rh } 0x2100
    { start vec (quiet true) with
      state := .rh } = true := by decide
theorem test_HDR_WAIT_H12 : gives { start { vec with P_IDLE_TIMEOUT := 3 } (quiet true) with
      state := .rh, hdr_cnt := 1, idle_cnt := 1 } 0x2500
    { start { vec with P_IDLE_TIMEOUT := 3 } (quiet true) with
      state := .rh, hdr_cnt := 1, idle_cnt := 2 } = true := by decide
theorem test_HDR_HI_H2 : gives { start vec (offer 0x01) with
      state := .rh } 0x2300
    { start vec (offer 0x01) with
      state := .rh, hdr_hi := 0x01, hdr_cnt := 1 } = true := by decide
theorem test_HDR_LO_H14 : gives { start { vec with P_IDLE_TIMEOUT := 3 } (offer 0x07) with
      state := .rh, hdr_cnt := 1, idle_cnt := 2 } 0x2701
    { start { vec with P_IDLE_TIMEOUT := 3 } (offer 0x07) with
      state := .rh, hdr_cnt := 2, idle_cnt := 0, hdr_lo := 0x07 } = true := by decide
theorem test_HDR_CHK_OK_H4 : gives { start vec (offer 0xA4) with
      state := .rh, hdr_cnt := 2, hdr_hi := 0x01, hdr_lo := 0xF3 } 0x2B40
    { start vec (offer 0xA4) with
      state := .rp, hdr_cnt := 0, hdr_hi := 0x01, hdr_lo := 0xF3, plen := 1500 } = true := by decide
theorem test_HDR_CHK_OK_H10 : gives { start { vec with P_OVERSIZE := .cap } (offer 0x56) with
      state := .rh, hdr_cnt := 2, hdr_hi := 0xFF, hdr_lo := 0xFF } 0x2B40
    { start { vec with P_OVERSIZE := .cap } (offer 0x56) with
      state := .rp, hdr_cnt := 0, hdr_hi := 0xFF, hdr_lo := 0xFF, plen := 0x30000 } = true := by decide
theorem test_HDR_CHK_BAD_H7 : gives { start vec (offer 0x55) with
      state := .rh, hdr_cnt := 2 } 0x2B00
    { start vec (offer 0x55) with
      state := .sm, hdr_cnt := 0 } = true := by decide
theorem test_HDR_CHK_BAD_H9 : gives { start vec (offer 0x00) with
      state := .rh, hdr_cnt := 2, hdr_hi := 0xFF, hdr_lo := 0xFF } 0x2B20
    { start vec (offer 0x00) with
      state := .sm, hdr_cnt := 0, hdr_hi := 0xFF, hdr_lo := 0xFF } = true := by decide
theorem test_HDR_OVERSIZE_H5 : gives { start vec (offer 0xA3) with
      state := .rh, hdr_cnt := 2, hdr_hi := 0x01, hdr_lo := 0xF4 } 0x2B60
    { start vec (offer 0xA3) with
      state := .sm, hdr_cnt := 0, hdr_hi := 0x01, hdr_lo := 0xF4 } = true := by decide
theorem test_HDR_RSVD_H16 : gives { start vec (offer 0x12) with
      state := .rh, hdr_cnt := 3 } 0x2F00
    { start vec (offer 0x12) with
      state := .sm, hdr_cnt := 0 } = true := by decide
theorem test_HDR_TIMEOUT_H13 : gives { start { vec with P_IDLE_TIMEOUT := 3 } (quiet true) with
      state := .rh, hdr_cnt := 1, idle_cnt := 2 } 0x2501
    { start { vec with P_IDLE_TIMEOUT := 3 } (quiet true) with
      state := .sm, hdr_cnt := 0, idle_cnt := 0 } = true := by decide
theorem test_HDR_TIMEOUT_H15 : gives { start { vec with P_IDLE_TIMEOUT := 1 } (quiet true) with
      state := .rh } 0x2101
    { start { vec with P_IDLE_TIMEOUT := 1 } (quiet true) with
      state := .sm } = true := by decide
theorem test_PAY_WAIT_V3 : gives { start vec (quiet true) with
      state := .rp, plen := 3, cursor := 1 } 0x4100
    { start vec (quiet true) with
      state := .rp, plen := 3, cursor := 1 } = true := by decide
theorem test_PAY_TIMEOUT_V4 : gives { start { vec with P_IDLE_TIMEOUT := 3 } (quiet true) with
      state := .rp, plen := 3, cursor := 1, idle_cnt := 2, buf := [(0, 0xAA)] } 0x4101
    { start { vec with P_IDLE_TIMEOUT := 3 } (quiet true) with
      state := .sm, plen := 3, cursor := 0, idle_cnt := 0, buf := [(0, 0xAA)] } = true := by decide
theorem test_PAY_TIMEOUT_R175 : gives { start { vec with P_IDLE_TIMEOUT := 3 } (quiet true) with
      state := .rp, hdr_cnt := 1, plen := 3, cursor := 1, idle_cnt := 2, buf := [(0, 0xAA)] } 0x4501
    { start { vec with P_IDLE_TIMEOUT := 3 } (quiet true) with
      state := .sm, hdr_cnt := 0, plen := 3, cursor := 0, idle_cnt := 0, buf := [(0, 0xAA)] } = true := by decide
theorem test_PAY_STORE_V1 : gives { start vec (offer 0xAA) with
      state := .rp, plen := 3 } 0x4300
    { start vec (offer 0xAA) with
      state := .rp, plen := 3, buf := [(0, 0xAA)], cursor := 1 } = true := by decide
theorem test_PAY_STORE_V5 : gives { start { vec with P_OVERSIZE := .cap, P_C := 6 } (offer 0x77) with
      state := .rp, plen := 9, cursor := 6 } 0x4300
    { start { vec with P_OVERSIZE := .cap, P_C := 6 } (offer 0x77) with
      state := .rp, plen := 9, cursor := 7 } = true := by decide
theorem test_PAY_LAST_V7 : gives { start vec (offer 0x5A) with
      state := .rp, plen := 1500, cursor := 1499 } 0x4310
    { start vec (offer 0x5A) with
      state := .la, plen := 1500, cursor := 1500, buf := [(1499, 0x5A)] } = true := by decide
theorem test_PAY_LAST_V6 : gives { start { vec with P_OVERSIZE := .cap, P_C := 6 } (offer 0x99) with
      state := .rp, plen := 9, cursor := 8 } 0x4310
    { start { vec with P_OVERSIZE := .cap, P_C := 6 } (offer 0x99) with
      state := .la, plen := 9, cursor := 9 } = true := by decide
theorem test_DRAIN_WAIT_L1 : gives { start vec (quiet false) with
      state := .la, plen := 3, cursor := 3, buf := [(0, 0xAA), (1, 0xBB), (2, 0xCC)] } 0x6000
    { start vec (quiet false) with
      state := .la, plen := 3, cursor := 3, buf := [(0, 0xAA), (1, 0xBB), (2, 0xCC)] } = true := by decide
theorem test_DRAIN_EMIT_L9 : gives { start vec (offer 0x41) with
      state := .la, plen := 3, cursor := 3, buf := [(0, 0xAA), (1, 0xBB), (2, 0xCC)], didx := 1 } 0x6300
    { start vec (offer 0x41) with
      state := .la, plen := 3, cursor := 3, buf := [(0, 0xAA), (1, 0xBB), (2, 0xCC)], didx := 2 } = true := by decide
theorem test_DRAIN_LAST_L3 : gives { start vec (quiet true) with
      state := .la, plen := 3, cursor := 3, buf := [(0, 0xAA), (1, 0xBB), (2, 0xCC)], didx := 2 } 0x6108
    { start vec (quiet true) with
      state := .la, plen := 3, cursor := 3, buf := [(0, 0xAA), (1, 0xBB), (2, 0xCC)], didx := 0
      lphase := .settle } = true := by decide
theorem test_DRAIN_LAST_L4 : gives { start { vec with P_OVERSIZE := .cap, P_C := 6 } (quiet true) with
      state := .la, plen := 9, cursor := 9, didx := 5, buf := [(5, 0x06)] } 0x6108
    { start { vec with P_OVERSIZE := .cap, P_C := 6 } (quiet true) with
      state := .la, plen := 9, cursor := 9, didx := 0, buf := [(5, 0x06)], lphase := .settle } = true := by decide
theorem test_SETTLE_CYCLE_L5 : gives { start vec (quiet false) with
      state := .la, plen := 3, cursor := 3, buf := [(0, 0xAA), (1, 0xBB), (2, 0xCC)], lphase := .settle } 0x7000
    { start vec (quiet false) with
      state := .la, plen := 3, cursor := 3, buf := [(0, 0xAA), (1, 0xBB), (2, 0xCC)], lphase := .settle
      tick_cnt := 1 } = true := by decide
theorem test_SETTLE_TICK_L6 : gives { start vec (quiet true) with
      state := .la, plen := 3, cursor := 3, buf := [(0, 0xAA), (1, 0xBB), (2, 0xCC)], lphase := .settle
      tick_cnt := 1 } 0x7104
    { start vec (quiet true) with
      state := .la, plen := 3, cursor := 3, buf := [(0, 0xAA), (1, 0xBB), (2, 0xCC)], lphase := .settle
      tick_cnt := 0, latch_cnt := 1 } = true := by decide
theorem test_SETTLE_DONE_L7 : gives { start vec (quiet true) with
      state := .la, plen := 3, cursor := 3, buf := [(0, 0xAA), (1, 0xBB), (2, 0xCC)], lphase := .settle
      tick_cnt := 1, latch_cnt := 4 } 0x7106
    { start vec (quiet true) with
      state := .sm, plen := 3, cursor := 0, buf := [(0, 0xAA), (1, 0xBB), (2, 0xCC)], lphase := .drain
      tick_cnt := 0, latch_cnt := 0 } = true := by decide
theorem test_SETTLE_DONE_L8 : gives { start { vec with P_LATCH_TICKS := 1, P_TICK_CYCLES := 1 } (quiet true) with
      state := .la, plen := 3, cursor := 3, buf := [(0, 0xAA), (1, 0xBB), (2, 0xCC)], lphase := .settle } 0x7106
    { start { vec with P_LATCH_TICKS := 1, P_TICK_CYCLES := 1 } (quiet true) with
      state := .sm, plen := 3, cursor := 0, buf := [(0, 0xAA), (1, 0xBB), (2, 0xCC)], lphase := .drain } = true := by decide

theorem test_outputs_O4 : (fun s => (inReady s, outValid s, outData s))
    { start vec (quiet true) with state := .la, didx := 1, buf := [(1, 0xBB)] } = (false, true, some 0xBB) := by decide
theorem test_outputs_O6 : (fun s => (inReady s, outValid s, outData s))
    { start vec ⟨true, false, 0x00, true⟩ with state := .la, didx := 1, buf := [(1, 0xBB)] } =
      (false, false, some 0x00) := by decide

/-! ### Streams (R96) -/

theorem test_R96_frame : (Item.frame [0xAA, 0xBB, 0xCC]).expand vec =
    [0x41, 0x64, 0x61, 0x00, 0x00, 0x56, 0xAA, 0xBB, 0xCC].map some := by decide
theorem test_R96_header : (Item.hdr 1).expand vec = [0x00, 0x01, 0x57].map some := by decide

/-! ### Witnesses -/

/-- If `stepIs s p` holds, the step of `s` answers a next state with `p`. -/
def stepIs (s : State) (p : State → Bool) : Bool :=
  match step s with
  | .next t => p t
  | .fault _ => false
  | .refused _ => false

/-- The table word of PAY_LAST presented to the machine after reset is the operation that its first step performs. -/
theorem test_fetch_word_after_reset :
    decodeSel (State.reset.withFetchWord 16 0x4210).fetchWord = some (.payLast 0x0000) ∧
      stepIs (State.reset.withFetchWord 16 0x4210) (·.state == .la) = true := by decide

/-- L9: BB is emitted and the byte on offer is not accepted. -/
theorem test_DRAIN_EMIT_sends_BB :
    stepIs { start vec (offer 0x41) with state := .la, plen := 3, cursor := 3, didx := 1, buf := [(1, 0xBB)] }
      (fun t => t.emitted == [(0, 0xBB)] && t.accepted == []) = true := by decide

theorem stepIs_next {s : State} {p : State → Bool} (h : stepIs s p = true) :
    ∃ t, step s = .next t ∧ p t = true := by
  unfold stepIs at h
  split at h
  · exact ⟨_, ‹_›, h⟩
  · cases h
  · cases h

/-- A small build: six bytes, two ticks of two cycles, a timeout of two cycles. -/
def tiny : Params := { vec with P_C := 6, P_LATCH_TICKS := 2, P_TICK_CYCLES := 2, P_IDLE_TIMEOUT := 2 }

/-- The smallest settle: one tick of one cycle, no timeout. -/
def quick : Params := { vec with P_C := 6, P_LATCH_TICKS := 1, P_TICK_CYCLES := 1 }

/-- In SM with the byte `p` on the ports, two marker bytes accepted. -/
def wSeek (c : Params) (p : PortIn) : State :=
  { start c p with mw := 0x004164, mw_cnt := 2, accepted := [(1, 0x64), (0, 0x41)] }

/-- In RH with `n` header bytes received, both of them zero. -/
def wHdr (c : Params) (n : BitVec 2) (p : PortIn) : State := { start c p with state := .rh, hdr_cnt := n }

/-- In RH at hdr_cnt = 2 with a header of 8 pixels, over a capacity of 6. -/
def wOver (p : PortIn) : State := { start tiny p with state := .rh, hdr_cnt := 2, hdr_lo := 0x07 }

/-- In RP with one of three bytes stored. -/
def wPay (c : Params) (p : PortIn) : State :=
  { start c p with state := .rp, plen := 3, cursor := 1, buf := [(0, 0xAA)], accepted := [(0, 0xAA)] }

/-- In RP with two of three bytes stored. -/
def wPayEnd (p : PortIn) : State :=
  { start tiny p with
    state := .rp, plen := 3, cursor := 2, buf := [(0, 0xAA), (1, 0xBB)], accepted := [(1, 0xBB), (0, 0xAA)] }

/-- In the drain of a frame AA BB CC, with `d` bytes sent. -/
def wDrain (c : Params) (d : Len) (sent : List (Nat × Byte)) (p : PortIn) : State :=
  { start c p with
    state := .la, plen := 3, cursor := 3, didx := d, buf := [(0, 0xAA), (1, 0xBB), (2, 0xCC)]
    accepted := [(2, 0xCC), (1, 0xBB), (0, 0xAA)], emitted := sent }

/-- In the settle of that frame, at tick `l` and cycle `k` of it. -/
def wSettle (c : Params) (k l : Nat) (p : PortIn) : State :=
  { wDrain c 0 [(5, 0xCC), (4, 0xBB), (3, 0xAA)] p with lphase := .settle, tick_cnt := k, latch_cnt := l }

/-- Offered and ready. -/
abbrev pIn : PortIn := offer 0x61
/-- Nothing offered, the sink ready. -/
abbrev pOut : PortIn := quiet true

/-! States that meet the invariants, one for each place of the protocol. -/

theorem wSeek_inv : Inv (wSeek tiny pIn) := by constructor <;> decide
theorem wHdr_inv : Inv (wHdr tiny 2 (offer 0x56)) := by constructor <;> decide
theorem wHdr_bad_inv : Inv (wHdr tiny 2 (offer 0x55)) := by constructor <;> decide
theorem wHdr_wait_inv : Inv (wHdr tiny 1 pOut) := by constructor <;> decide
theorem wHdr_late_inv : Inv { wHdr tiny 1 pOut with idle_cnt := 1 } := by constructor <;> decide
theorem wOver_inv : Inv (wOver (offer 0x51)) := by constructor <;> decide
theorem wPay_inv : Inv (wPay tiny (offer 0xBB)) := by constructor <;> decide
theorem wPay_wait_inv : Inv (wPay tiny pOut) := by constructor <;> decide
theorem wPay_late_inv : Inv { wPay tiny pOut with idle_cnt := 1 } := by constructor <;> decide
theorem wPayEnd_inv : Inv (wPayEnd (offer 0xCC)) := by constructor <;> decide
theorem wDrain_inv : Inv (wDrain tiny 0 [] pOut) := by constructor <;> decide
theorem wDrain_last_inv : Inv (wDrain tiny 2 [(4, 0xBB), (3, 0xAA)] pOut) := by constructor <;> decide
theorem wSettle_inv : Inv (wSettle tiny 0 0 pOut) := by constructor <;> decide
theorem wSettle_tick_inv : Inv (wSettle tiny 1 0 pOut) := by constructor <;> decide
theorem wSettle_done_inv : Inv (wSettle tiny 1 1 pOut) := by constructor <;> decide
theorem wSettle_quick_inv : Inv (wSettle quick 0 0 pOut) := by constructor <;> decide

/-! Encoding and the step. -/

theorem witness_DecodeOfEncodeIsTheInstruction : (Instr.payStore 0x1DEF).wf = true := by decide
theorem witness_EncodeOfDecodeIsTheWord : decodeSel 0xFFFF = some (.reset 0x7FFF) := by decide
theorem witness_StepRunsTheSelectedOperation_next :
    (wSeek tiny pIn).cfg.legal = true ∧ decodeSel (sel (wSeek tiny pIn)) = some (.seekMatch 0x0100) ∧
      ∃ t, exec (.seekMatch 0x0100) (wSeek tiny pIn) = .next t := ⟨by decide, by decide, _, rfl⟩
theorem witness_StepRunsTheSelectedOperation_fault :
    (wDrain tiny 6 [] pOut).cfg.legal = true ∧
      decodeSel (sel (wDrain tiny 6 [] pOut)) = some (.drainEmit 0x0000) ∧
      exec (.drainEmit 0x0000) (wDrain tiny 6 [] pOut) = .fault .readOutsideBuffer := ⟨by decide, by decide, rfl⟩
theorem witness_IllegalBuildIsRefused : step (start { vec with P_TICK_CYCLES := 0 } pIn) = .refused .illegalBuild ∧
    stepIs (start { vec with P_C := 3, P_TICK_CYCLES := 1, P_LATCH_TICKS := 1 } pIn) (fun _ => true) = true ∧
    stepIs (start { vec with P_C := 196608 } pIn) (fun _ => true) = true :=
  ⟨rfl, by decide, by decide⟩
theorem witness_OneResetEdgeIsEnough :
    (fun s => s.cfg.legal = true ∧ s.port.rst = true ∧ (s.portAt 1).rst = true)
      { wDrain tiny 0 [] pOut with feed := [⟨true, true, 0x55, true⟩, ⟨true, false, 0x00, false⟩] } := by decide

/-! Clauses with hypotheses of the statements about one operation. -/

theorem witness_SeekIdleWritesNothing : (start vec pOut).port.rst = false ∧ (start vec pOut).state = .sm := by decide
theorem witness_SeekShiftPushesTheByteIntoTheWindow : { start vec pIn with mw_cnt := 1 }.mw_cnt.toNat < 2 := by decide
theorem witness_ResetWritesEveryRegister : (start vec ⟨true, true, 0x41, true⟩).port.rst = true := by decide
theorem witness_HdrWaitCountsTheIdleCycle : (wHdr vec 0 pOut).cfg.P_IDLE_TIMEOUT = 0 := by decide
theorem witness_PayWaitCountsTheIdleCycle : (wPay vec pOut).cfg.P_IDLE_TIMEOUT = 0 := by decide
theorem witness_HdrOversizeRejectsTheFrame : rejOver (wOver (offer 0x51)) = true := by decide
theorem witness_HdrTimeoutReturnsToSeeking : idleEnd { wHdr tiny 1 pOut with idle_cnt := 1 } = true := by decide
theorem witness_HdrRsvdRecoversFromTheUnusedCount :
    Inv (wHdr tiny 2 (offer 0x56)) ∧ (wHdr tiny 2 (offer 0x56)).state = .rh := ⟨wHdr_inv, rfl⟩
theorem witness_PayStore_in_the_buffer : (fun s : State => s.cursor.toNat < s.cfg.P_C)
    { wPay tiny (offer 0xBB) with cursor := 5 } := by decide
theorem witness_PayStore_past_the_buffer : (fun s : State => ¬s.cursor.toNat < s.cfg.P_C)
    { wPay tiny (offer 0xBB) with cursor := 6 } := by decide
theorem witness_PayLastWritesTheLastByteAndEntersLatching : payLast (wPayEnd (offer 0xCC)) = true := by decide
theorem witness_DrainWaitHoldsTheByte :
    (fun s : State => s.port.rst = false ∧ s.state = .la ∧ s.lphase = .drain ∧ s.didx.toNat < s.cfg.P_C)
      (wDrain tiny 5 [] (quiet false)) := by decide
theorem witness_DrainLast_at_capacity : (fun s : State => s.plen.toNat = s.cfg.P_C ∧ s.didx.toNat < s.cfg.P_C)
    { wDrain tiny 5 [] pOut with plen := 6 } := by decide
theorem witness_SettleCycle_and_SettleTick_of_one :
    Inv (wSettle quick 0 0 pOut) ∧ (wSettle quick 0 0 pOut).cfg.P_TICK_CYCLES = 1 ∧
      (wSettle quick 0 0 pOut).cfg.P_LATCH_TICKS = 1 := ⟨wSettle_quick_inv, by decide, by decide⟩
theorem witness_SettleDoneRearmsTheSynchronizer :
    Inv (wSettle tiny 1 1 pOut) ∧ (wSettle tiny 1 1 pOut).state = .la := ⟨wSettle_done_inv, rfl⟩
theorem witness_DrainOutsideTheBufferFaults : (fun s : State => s.cfg.P_C ≤ s.didx.toNat)
    (wDrain tiny 6 [] pOut) := by decide
theorem witness_Conditions_plen_fits : (fun s : State => s.plen.toNat ≤ s.cfg.P_C)
    { wDrain tiny 5 [] pOut with plen := 6 } := by decide

/-! Ports, buffer and registers. -/

theorem witness_Outputs : outValid (wDrain tiny 0 [] pOut) = true ∧ outValid (wSettle tiny 0 0 pOut) = false ∧
    (wDrain tiny 0 [] pOut).didx.toNat < (wDrain tiny 0 [] pOut).cfg.P_C := by decide
theorem witness_OutputsIgnoreTheInputHandshakes :
    (wDrain tiny 0 [] pOut).view = (wDrain tiny 0 [] (offer 0x41)).view ∧
      (wDrain tiny 0 [] pOut).port.rst = (wDrain tiny 0 [] (offer 0x41)).port.rst := by decide
theorem witness_EventsAreExactlyTheHandshakes :
    stepIs (wSeek tiny pIn) (fun _ => accIn (wSeek tiny pIn)) = true ∧
      stepIs (wDrain tiny 0 [] pOut) (fun _ => accOut (wDrain tiny 0 [] pOut)) = true ∧
      stepIs (wSettle tiny 0 0 pIn)
        (fun _ => !accIn (wSettle tiny 0 0 pIn) && !accOut (wSettle tiny 0 0 pIn)) = true := by decide
theorem witness_BufferReadsWhatWasLastWritten :
    5 < (wPay tiny pOut).cfg.P_C ∧ (wPay tiny pOut).cfg.P_C ≤ 6 := by decide
theorem witness_StepKeepsTheBuffer :
    Memory.wf (wPay tiny (offer 0xBB)).buf ∧ Memory.within (wPay tiny (offer 0xBB)).buf 6 ∧
      stepIs (wPay tiny (offer 0xBB)) (fun t => t.buf != (wPay tiny (offer 0xBB)).buf) = true := by decide
theorem witness_EachRegisterHasOnlyItsListedWriters :
    ∃ t, exec (.payLast 0x0100) (wPayEnd (offer 0xCC)) = .next t := ⟨_, rfl⟩
theorem witness_ErrorClassesAreRaisedByTheirOperationsOnly :
    ∃ t, exec (.hdrTimeout 0x0500) (wHdr tiny 1 pOut) = .next t := ⟨_, rfl⟩
theorem witness_InvariantsHoldAtReset : tiny.legal = true := by decide
theorem witness_StepKeepsTheInvariants :
    Inv (wPayEnd (offer 0xCC)) ∧ ∃ t, step (wPayEnd (offer 0xCC)) = .next t :=
  ⟨wPayEnd_inv, (stepIs_next (p := fun _ => true) (by decide)).imp fun _ h => h.1⟩
theorem witness_InvariantStatesAlwaysStep : Inv (wDrain tiny 0 [] pOut) := wDrain_inv

theorem witness_CountersCountWithoutWrapping :
    (Inv (wSettle tiny 0 0 pOut) ∧ decodeSel (wSettle tiny 0 0 pOut).fetchWord = some (.settleCycle 0x0100)) ∧
    (Inv (wSettle tiny 1 0 pOut) ∧ decodeSel (wSettle tiny 1 0 pOut).fetchWord = some (.settleTick 0x0100)) ∧
    (Inv (wHdr tiny 1 pOut) ∧ decodeSel (wHdr tiny 1 pOut).fetchWord = some (.hdrWait 0x0500) ∧
      (wHdr tiny 1 pOut).cfg.P_IDLE_TIMEOUT ≠ 0) ∧
    (Inv (wPay tiny pOut) ∧ decodeSel (wPay tiny pOut).fetchWord = some (.payWait 0x0100)) ∧
    (Inv (wPay tiny (offer 0xBB)) ∧ decodeSel (wPay tiny (offer 0xBB)).fetchWord = some (.payStore 0x0100)) ∧
    (Inv (wPayEnd (offer 0xCC)) ∧ decodeSel (wPayEnd (offer 0xCC)).fetchWord = some (.payLast 0x0100)) ∧
    (Inv (wDrain tiny 0 [] pOut) ∧ decodeSel (wDrain tiny 0 [] pOut).fetchWord = some (.drainEmit 0x0000)) :=
  ⟨⟨wSettle_inv, by decide⟩, ⟨wSettle_tick_inv, by decide⟩, ⟨wHdr_wait_inv, by decide, by decide⟩,
    ⟨wPay_wait_inv, by decide⟩, ⟨wPay_inv, by decide⟩, ⟨wPayEnd_inv, by decide⟩, ⟨wDrain_inv, by decide⟩⟩

theorem witness_RecoveryIsPreciseAndLeavesAnEmptyWindow :
    (Inv (wHdr tiny 2 (offer 0x55)) ∧
      decodeSel (wHdr tiny 2 (offer 0x55)).fetchWord = some (.hdrChkBad 0x0100)) ∧
    (Inv (wOver (offer 0x51)) ∧ decodeSel (wOver (offer 0x51)).fetchWord = some (.hdrOversize 0x0100)) ∧
    (Inv { wHdr tiny 1 pOut with idle_cnt := 1 } ∧
      decodeSel { wHdr tiny 1 pOut with idle_cnt := 1 }.fetchWord = some (.hdrTimeout 0x0500)) ∧
    (Inv { wPay tiny pOut with idle_cnt := 1 } ∧
      decodeSel { wPay tiny pOut with idle_cnt := 1 }.fetchWord = some (.payTimeout 0x0100)) :=
  ⟨⟨wHdr_bad_inv, by decide⟩, ⟨wOver_inv, by decide⟩, ⟨wHdr_late_inv, by decide⟩, ⟨wPay_late_inv, by decide⟩⟩

/-- Each of the transitions occurs. -/
theorem witness_StateMachineHasOnlyTheListedTransitions :
    stepIs (wSeek tiny pIn) (·.state == .rh) = true ∧
    stepIs (wHdr tiny 2 (offer 0x56)) (·.state == .rp) = true ∧
    stepIs (wHdr tiny 2 (offer 0x55)) (·.state == .sm) = true ∧
    stepIs (wOver (offer 0x51)) (·.state == .sm) = true ∧
    stepIs (wHdr tiny 3 pIn) (·.state == .sm) = true ∧
    stepIs { wPay tiny pOut with idle_cnt := 1 } (·.state == .sm) = true ∧
    stepIs (wPayEnd (offer 0xCC)) (·.state == .la) = true ∧
    stepIs (wSettle tiny 1 1 pOut) (·.state == .sm) = true := by decide

theorem witness_DataNotAcceptedIsNeverRead :
    (wSettle tiny 0 0 pIn).feed = pIn :: [] ∧ accIn (wSettle tiny 0 0 pIn) = false := by decide
theorem witness_NextRegistersDependOnRegistersAndPortsOnly :
    (fun s t : State => s.view = t.view ∧ s.port = t.port ∧ s ≠ t ∧ stepIs s (fun _ => true) = true)
      (wSeek tiny pIn) { wSeek tiny pIn with cycle := 7, accepted := [], feed := [pIn, pOut] } := by decide
theorem witness_LatchingAcceptsNothingAndSettlingEmitsNothing :
    (wSettle tiny 1 1 pIn).state = .la ∧ stepIs (wSettle tiny 1 1 pIn) (·.state != .la) = true := by decide
theorem witness_OfferedByteIsHeldUntilTheSinkTakesIt :
    (fun s : State => outValid s = true ∧ s.port.outReady = false ∧ stepIs s (fun t => !t.port.rst) = true)
      { wDrain tiny 0 [] pOut with feed := [quiet false, quiet false] } := by decide

/-! Several cycles. -/

theorem witness_SettleLastsExactlyItsTicks :
    (fun s : State => Inv s ∧ s.state = .la ∧ s.lphase = .settle ∧ s.tick_cnt = 0 ∧ s.latch_cnt = 0 ∧
        ∀ k, k < s.cfg.P_LATCH_TICKS * s.cfg.P_TICK_CYCLES → (s.portAt k).rst = false)
      { wSettle tiny 0 0 pOut with feed := [pIn, pOut, pIn, pOut] } :=
  ⟨by constructor <;> decide, by decide⟩
theorem witness_DrainEmitsTheBufferInDlenCycles :
    (fun s : State => Inv s ∧ s.state = .la ∧ s.lphase = .drain ∧ s.didx = 0 ∧
        ∀ k, k < s.dlen → (s.portAt k).rst = false ∧ (s.portAt k).outReady = true)
      { wDrain tiny 0 [] pOut with feed := [pOut, pIn, pOut] } :=
  ⟨by constructor <;> decide, by decide⟩
theorem witness_TransmittedBytesEqualReceivedBytes :
    (fun s : State => Inv s ∧ s.lphase = .drain ∧ stepIs s (·.lphase == .settle) = true ∧
      s.cfg.P_OVERSIZE = .reject) (wDrain tiny 2 [(4, 0xBB), (3, 0xAA)] pOut) :=
  ⟨wDrain_last_inv, by decide⟩
theorem witness_WindowIsEmptyOnEveryReturnToSeeking :
    (fun s : State => Inv s ∧ s.state ≠ .sm ∧ s.mw_cnt.toNat < 2 ∧ stepIs s (fun _ => true) = true)
      (wHdr tiny 2 (offer 0x55)) := ⟨wHdr_bad_inv, by decide⟩
/-- One idle cycle after the first marker byte, none after the second, and a window full of marker bytes before. -/
theorem witness_MarkerIsNeverMissed :
    (fun (s : State) (a b : Nat) => s.cfg.legal = true ∧ s.state = .sm ∧
        (∀ k, k < a + b + 3 → (s.portAt k).rst = false) ∧
        (∀ k, k < a + b + 3 → ((s.portAt k).inValid = true ↔ k = 0 ∨ k = a + 1 ∨ k = a + b + 2)) ∧
        (s.portAt 0).inData = s.cfg.P_M0 ∧ (s.portAt (a + 1)).inData = s.cfg.P_M1 ∧
        (s.portAt (a + b + 2)).inData = s.cfg.P_M2)
      { wSeek tiny pIn with mw := 0x416441, mw_cnt := 3, feed := [offer 0x41, pOut, offer 0x64, offer 0x61] } 1 0 := by
  decide
theorem witness_ChecksumDetectsSingleBitErrorsButNotEqualFlips : 7 < 8 ∧ (0x57 : Byte) = checksum vec 0x00 0x01 := by decide
theorem witness_WaitingBlocksStayParked :
    (fun (s : State) (n : Nat) => s.cfg.legal = true ∧ s.state = .sm ∧
      ∀ k, k < n → (s.portAt k).rst = false ∧ (s.portAt k).inValid = false)
        { wSeek tiny pOut with feed := [pOut, pOut] } 2 ∧
    (fun (s : State) (n : Nat) => s.cfg.legal = true ∧ s.state = .rp ∧ s.cfg.P_IDLE_TIMEOUT = 0 ∧
      ∀ k, k < n → (s.portAt k).rst = false ∧ (s.portAt k).inValid = false)
        { wPay quick pOut with feed := [pOut, pOut] } 2 ∧
    (fun (s : State) (n : Nat) => s.cfg.legal = true ∧ s.state = .la ∧ s.lphase = .drain ∧
      ∀ k, k < n → (s.portAt k).rst = false ∧ (s.portAt k).outReady = false)
        { wDrain tiny 0 [] pOut with feed := [quiet false, quiet false] } 2 := by decide
theorem witness_IdleTimeoutFiresInItsCycleExactly :
    (fun s : State => Inv s ∧ (s.state = .rh ∨ s.state = .rp) ∧ s.idle_cnt = 0 ∧ s.cfg.P_IDLE_TIMEOUT ≠ 0 ∧
        ∀ k, k < s.cfg.P_IDLE_TIMEOUT → (s.portAt k).rst = false ∧ (s.portAt k).inValid = false)
      { wPay tiny pOut with feed := [pOut, pOut] } :=
  ⟨by constructor <;> decide, by decide⟩

/-- The frame of R96 on the ports of the smallest settle: 6 + 3 + 3 + 1 cycles. -/
def wFrame : State :=
  { start quick pOut with
    feed := [offer 0x41, offer 0x64, offer 0x61, offer 0x00, offer 0x00, offer 0x56] ++
      [offer 0xAA, offer 0xBB, offer 0xCC, pOut, pOut, pOut, pOut] }
theorem witness_FrameIsTransmittedInItsCycleCount :
    (fun (s : State) (hi lo : Byte) (plen dlen n : Nat) => Inv s ∧ s.state = .sm ∧ s.mw_cnt = 0 ∧
        plen = 3 * (256 * hi.toNat + lo.toNat + 1) ∧ dlen = min plen s.cfg.P_C ∧
        n = 6 + plen + dlen + s.cfg.P_LATCH_TICKS * s.cfg.P_TICK_CYCLES ∧
        (s.cfg.P_OVERSIZE = .reject → plen ≤ s.cfg.P_C) ∧
        (∀ k, k < n → (s.portAt k).rst = false) ∧ (∀ k, k < 6 + plen → (s.portAt k).inValid = true) ∧
        (s.portAt 0).inData = s.cfg.P_M0 ∧ (s.portAt 1).inData = s.cfg.P_M1 ∧ (s.portAt 2).inData = s.cfg.P_M2 ∧
        (s.portAt 3).inData = hi ∧ (s.portAt 4).inData = lo ∧ (s.portAt 5).inData = hi ^^^ lo ^^^ s.cfg.P_K ∧
        ∀ k, 6 + plen ≤ k → k < 6 + plen + dlen → (s.portAt k).outReady = true)
      wFrame 0x00 0x00 3 3 13 := by
  refine ⟨by constructor <;> decide, by decide, by decide, by decide, by decide, by decide, by decide, by decide,
    by decide, by decide, by decide, by decide, by decide, by decide, by decide, fun k h1 h2 => ?_⟩
  have h : k = 9 ∨ k = 10 ∨ k = 11 := by omega
  rcases h with rfl | rfl | rfl <;> decide

end Sys2Proof.Tests
end

section
/-!
SUPPORT. The registers and ports under which SEL selects an operation (spec/30_encoding.md R87 to R90), and a step as
the meaning of the operation that SEL decodes to.
-/
namespace Sys2Proof.Machine

/-- What the registers and ports of `s` are when its SEL selects `i`: the conditions on the path of `rowFor` to the
operation's row. -/
def SelectedIn (s : State) : Instr → Prop
  | .reset _ => s.port.rst
  | .seekIdle _ => ¬s.port.rst ∧ s.state = .sm ∧ ¬s.port.inValid
  | .seekShift _ => ¬s.port.rst ∧ s.state = .sm ∧ s.port.inValid ∧ ¬mmatch s
  | .seekMatch _ => ¬s.port.rst ∧ s.state = .sm ∧ s.port.inValid ∧ mmatch s
  | .hdrWait _ => ¬s.port.rst ∧ s.state = .rh ∧ ¬s.port.inValid ∧ ¬idleEnd s
  | .hdrHi _ => ¬s.port.rst ∧ s.state = .rh ∧ s.port.inValid ∧ s.hdr_cnt = 0
  | .hdrLo _ => ¬s.port.rst ∧ s.state = .rh ∧ s.port.inValid ∧ s.hdr_cnt = 1
  | .hdrChkOk _ => ¬s.port.rst ∧ s.state = .rh ∧ s.port.inValid ∧ s.hdr_cnt = 2 ∧ chkOk s ∧ ¬rejOver s
  | .hdrChkBad _ => ¬s.port.rst ∧ s.state = .rh ∧ s.port.inValid ∧ s.hdr_cnt = 2 ∧ ¬chkOk s
  | .hdrOversize _ => ¬s.port.rst ∧ s.state = .rh ∧ s.port.inValid ∧ s.hdr_cnt = 2 ∧ chkOk s ∧ rejOver s
  | .hdrRsvd _ =>
    ¬s.port.rst ∧ s.state = .rh ∧ s.port.inValid ∧ ¬s.hdr_cnt = 0 ∧ ¬s.hdr_cnt = 1 ∧ ¬s.hdr_cnt = 2
  | .hdrTimeout _ => ¬s.port.rst ∧ s.state = .rh ∧ ¬s.port.inValid ∧ idleEnd s
  | .payWait _ => ¬s.port.rst ∧ s.state = .rp ∧ ¬s.port.inValid ∧ ¬idleEnd s
  | .payTimeout _ => ¬s.port.rst ∧ s.state = .rp ∧ ¬s.port.inValid ∧ idleEnd s
  | .payStore _ => ¬s.port.rst ∧ s.state = .rp ∧ s.port.inValid ∧ ¬payLast s
  | .payLast _ => ¬s.port.rst ∧ s.state = .rp ∧ s.port.inValid ∧ payLast s
  | .drainWait _ => ¬s.port.rst ∧ s.state = .la ∧ s.lphase = .drain ∧ ¬s.port.outReady
  | .drainEmit _ => ¬s.port.rst ∧ s.state = .la ∧ s.lphase = .drain ∧ s.port.outReady ∧ ¬drainLast s
  | .drainLast _ => ¬s.port.rst ∧ s.state = .la ∧ s.lphase = .drain ∧ s.port.outReady ∧ drainLast s
  | .settleCycle _ => ¬s.port.rst ∧ s.state = .la ∧ s.lphase = .settle ∧ ¬tickEnd s
  | .settleTick _ => ¬s.port.rst ∧ s.state = .la ∧ s.lphase = .settle ∧ tickEnd s ∧ ¬latchEnd s
  | .settleDone _ => ¬s.port.rst ∧ s.state = .la ∧ s.lphase = .settle ∧ tickEnd s ∧ latchEnd s

/-- The operation of the cycle's row, whatever its unread bits, is selected in the state. -/
theorem selectedIn_rowFor (s : State) (u : Sel) : SelectedIn s ((rowFor s).make u) := by
  unfold rowFor
  repeat' split
  all_goals
    and_intros
    all_goals assumption

/-- An operation that the cycle's SEL decodes to is selected in the state. -/
theorem selectedIn_of_decodeSel {s : State} {i : Instr} (hd : decodeSel s.fetchWord = some i) : SelectedIn s i := by
  rw [State.fetchWord, decodeSel_sel] at hd
  exact Option.some.inj hd ▸ selectedIn_rowFor s _

/-- A step that answers a next state performs the operation that SEL decodes to, then takes the edge. -/
theorem exec_of_decodeSel {s t : State} {i : Instr} (hd : decodeSel s.fetchWord = some i) (h : step s = .next t) :
    ∃ t', exec i s = .next t' ∧ t = t'.endCycle := by
  obtain ⟨-, j, t', hj, he, ht⟩ := step_next h
  obtain rfl : i = j := Option.some.inj (hd.symm.trans hj)
  exact ⟨t', he, ht⟩

end Sys2Proof.Machine
end

section
/-!
PROOF. Under the invariants no counter wraps where it counts up (spec/10_state.md R43 INV5, INV7 to INV9): the condition
that its operation was not selected as the last one keeps it below its end, and its register holds every value up to
there (spec/00_scope.md R15).
-/
namespace Sys2Proof.Machine

/-- A length register below another length counts up without wrapping. -/
theorem len_toNat_add_one {a b : Len} (h : a.toNat < b.toNat) : (a + 1).toNat = a.toNat + 1 := by
  have hb := b.isLt
  rw [BitVec.toNat_add]
  exact Nat.mod_eq_of_lt (show a.toNat + 1 < 2 ^ 18 by omega)

/-- An idle cycle that does not complete the timeout counts up without wrapping (INV9). -/
theorem countIdle_idle_cnt_of_inv {s : State} (hI : Inv s) (hend : ¬idleEnd s) (hT : s.cfg.P_IDLE_TIMEOUT ≠ 0) :
    s.countIdle.idle_cnt = s.idle_cnt + 1 := by
  obtain ⟨-, -, hlt⟩ := hI.inv9
  have hne : s.idle_cnt + 1 ≠ s.cfg.P_IDLE_TIMEOUT := by simpa [idleEnd, hT] using hend
  rw [State.countIdle_idle_cnt, if_pos hT]
  exact idle_countUp (by omega)

section
variable {s t : State} {u : Sel} (hI : Inv s) (h : step s = .next t)
include hI h

theorem settleCycle_tick_cnt (hd : decodeSel s.fetchWord = some (.settleCycle u)) :
    t.tick_cnt = s.tick_cnt + 1 := by
  obtain ⟨-, hs, hp, hend⟩ := selectedIn_of_decodeSel hd
  obtain ⟨_, ⟨⟩, rfl⟩ := exec_of_decodeSel hd h
  obtain ⟨hlt, -⟩ := hI.inv8.1 ⟨hs, hp⟩
  have hne : s.tick_cnt + 1 ≠ s.cfg.P_TICK_CYCLES := by simpa [tickEnd] using hend
  exact tick_countUp (by omega)

theorem settleTick_latch_cnt (hd : decodeSel s.fetchWord = some (.settleTick u)) :
    t.latch_cnt = s.latch_cnt + 1 := by
  obtain ⟨-, hs, hp, -, hend⟩ := selectedIn_of_decodeSel hd
  obtain ⟨_, ⟨⟩, rfl⟩ := exec_of_decodeSel hd h
  obtain ⟨-, hlt⟩ := hI.inv8.1 ⟨hs, hp⟩
  have hne : s.latch_cnt + 1 ≠ s.cfg.P_LATCH_TICKS := by simpa [latchEnd] using hend
  exact latch_countUp (by omega)

theorem wait_idle_cnt
    (hd : decodeSel s.fetchWord = some (.hdrWait u) ∨ decodeSel s.fetchWord = some (.payWait u))
    (hT : s.cfg.P_IDLE_TIMEOUT ≠ 0) : t.idle_cnt = s.idle_cnt + 1 := by
  rcases hd with hd | hd
  all_goals
    obtain ⟨-, -, -, hend⟩ := selectedIn_of_decodeSel hd
    obtain ⟨_, ⟨⟩, rfl⟩ := exec_of_decodeSel hd h
    exact countIdle_idle_cnt_of_inv hI hend hT

theorem payloadByte_cursor
    (hd : decodeSel s.fetchWord = some (.payStore u) ∨ decodeSel s.fetchWord = some (.payLast u)) :
    t.cursor.toNat = s.cursor.toNat + 1 := by
  rcases hd with hd | hd
  all_goals
    obtain ⟨-, hs, -, -⟩ := selectedIn_of_decodeSel hd
    obtain ⟨_, ⟨⟩, rfl⟩ := exec_of_decodeSel hd h
    exact len_toNat_add_one (hI.inv5.1 hs)

theorem drainEmit_didx (hd : decodeSel s.fetchWord = some (.drainEmit u)) :
    t.didx.toNat = s.didx.toNat + 1 := by
  obtain ⟨-, hs, hp, -, -⟩ := selectedIn_of_decodeSel hd
  obtain ⟨_, he, rfl⟩ := exec_of_decodeSel hd h
  obtain ⟨-, rfl⟩ := drainEmit_next he
  have hlt : s.didx.toNat < s.dlen := hI.inv7.1 ⟨hs, hp⟩
  exact len_toNat_add_one (hlt.trans_le (Nat.min_le_left _ _))

end

/-- Settles O43: each counting operation is selected only below its counter's end, where the register does not wrap. -/
theorem countersCountWithoutWrapping : Obligations.CountersCountWithoutWrapping := by
  intro s t hI h
  refine ⟨?tick, ?latch, ?idle, ?cursor, ?didx⟩
  case tick => exact fun ⟨_, hd⟩ => settleCycle_tick_cnt hI h hd
  case latch => exact fun ⟨_, hd⟩ => settleTick_latch_cnt hI h hd
  case idle => exact fun ⟨_, hd⟩ hT => wait_idle_cnt hI h hd hT
  case cursor => exact fun ⟨_, hd⟩ => payloadByte_cursor hI h hd
  case didx => exact fun ⟨_, hd⟩ => drainEmit_didx hI h hd

end Sys2Proof.Machine
end

section
/-!
PROOF. The invariants INV1 to INV10 (spec/10_state.md R43) hold of s_0 of every legal build and are kept by every step,
and no counter leaves its register width under them (spec/00_scope.md R15).
-/
namespace Sys2Proof

/-- What R195 asks of a build. -/
theorem Params.legal_iff (c : Params) : c.legal = true ↔
    (3 ≤ c.P_C ∧ c.P_C ≤ 196608) ∧ 1 ≤ c.P_LATCH_TICKS ∧ 1 ≤ c.P_TICK_CYCLES := by
  simp [Params.legal, Params.capacityOk, Params.latchTicksOk, Params.tickCyclesOk, and_assoc]

end Sys2Proof

namespace Sys2Proof.Machine

/-! ### The build -/

/-- The build that State.reset holds is legal, whatever its free tick length is. -/
theorem build_legal : Config.build.legal = true := by
  simp [Params.legal_iff, Config.build]

/-! ### Where the latch and the window are at rest -/

/-- The TransmitLatchController's registers at rest, as they are everywhere outside Latching (INV1, INV7, INV8). -/
structure Unlatched (s : State) : Prop where
  lphase : s.lphase = .drain
  didx : s.didx = 0
  tick_cnt : s.tick_cnt = 0
  latch_cnt : s.latch_cnt = 0

theorem Inv.unlatched {s : State} (hI : Inv s) (hs : s.state ≠ .la) : Unlatched s := by
  obtain ⟨htick, hlatch⟩ := hI.inv8.2 fun h => hs h.1
  have hp : s.lphase ≠ .settle := fun hp => hs (hI.inv1 hp)
  refine ⟨?_, hI.inv7.2 fun h => hs h.1, htick, hlatch⟩
  cases h : s.lphase with
  | drain => rfl
  | settle => exact absurd h hp

/-- The registers of a block that seeks the marker, all but the window (INV1, INV3, INV4, INV7 to INV9). -/
structure Seeking (s : State) : Prop extends Unlatched s where
  state : s.state = .sm
  hdr_cnt : s.hdr_cnt = 0
  cursor : s.cursor = 0
  idle_cnt : s.idle_cnt = 0

theorem Inv.seeking {s : State} (hI : Inv s) (hs : s.state = .sm) : Seeking s where
  toUnlatched := hI.unlatched (by simp [hs])
  state := hs
  hdr_cnt := hI.inv3.2 (by simp [hs])
  cursor := hI.inv4 (.inl hs)
  idle_cnt := hI.inv9.1 (.inl hs)

/-- An empty window holds no byte. -/
theorem windowHeld_of_empty {s : State} (h : s.mw_cnt = 0) :
    ∀ k, k < s.mw_cnt.toNat → (s.accepted[k]?).map Prod.snd = some (slotAt s.mw k) := by
  simp [h]

/-- The payload clause says nothing before the first payload byte. -/
theorem payloadHeld_of_cursor_zero {s : State} (h : s.cursor = 0) :
    ∀ i, i < min s.cursor.toNat s.cfg.P_C →
      (Memory.read s.buf i).isSome = true ∧ s.payloadByte i = Memory.read s.buf i := by
  simp [h]

/-- The drain clause says nothing before the first byte of the drain. -/
theorem emittedHeld_of_undrained {s : State} (hp : s.lphase = .drain) (hd : s.didx = 0) :
    ∀ i, i < s.drained →
      (Memory.read s.buf i).isSome = true ∧ s.emittedByte s.drained i = Memory.read s.buf i := by
  simp [State.drained, hp, hd]

/-- In SeekingMagic the invariants come down to the registers at rest and what the window and the buffer hold. -/
theorem inv_of_seeking {s : State} (h : Seeking s) (hlegal : s.cfg.legal = true)
    (hwin : ∀ k, k < s.mw_cnt.toNat → (s.accepted[k]?).map Prod.snd = some (slotAt s.mw k))
    (hwf : Memory.wf s.buf) (hin : Memory.within s.buf s.cfg.P_C) : Inv s where
  legal := hlegal
  inv1 := by simp [h.lphase]
  inv2 := by simp [h.state]
  inv3 := by simp [h.hdr_cnt]
  inv4 := fun _ => h.cursor
  inv5 := by simp [h.state]
  inv6 := by simp [h.state]
  inv7 := by simp [h.state, h.didx]
  inv8 := by simp [h.state, h.tick_cnt, h.latch_cnt]
  inv9 := by simp [h.idle_cnt]
  inv10 := payloadHeld_of_cursor_zero h.cursor
  emittedHeld := emittedHeld_of_undrained h.lphase h.didx
  windowHeld := hwin
  bufWf := hwf
  bufWithin := hin

/-- s_0 of a legal build meets the invariants: it seeks the marker with an empty window and an unwritten buffer. -/
theorem boot_inv {c : Params} (feed : List PortIn) (hc : c.legal = true) : Inv (State.boot c feed) :=
  inv_of_seeking ⟨⟨rfl, rfl, rfl, rfl⟩, rfl, rfl, rfl, rfl⟩ hc (windowHeld_of_empty rfl) List.Pairwise.nil nofun

/-- Settles O40: s_0 seeks the marker with every register at rest. -/
theorem invariantsHoldAtReset : Obligations.InvariantsHoldAtReset :=
  ⟨fun _ feed hc => boot_inv feed hc, boot_inv [] build_legal⟩

/-! ### What an operation does to the records and the buffer -/

/-- One more valid byte, up to three (R34). -/
theorem countByte_toNat (n : BitVec 2) : (countByte n).toNat = min (n.toNat + 1) 3 :=
  Nat.mod_eq_of_lt (show min (n.toNat + 1) 3 < 2 ^ 2 by omega)

/-- A byte of a record, counted from the first of its last `n` entries, stays that byte when an entry is added. -/
theorem getElem?_cons_of_lt {α : Type} (x : α) (l : List α) {n i : Nat} (h : i < n) :
    (x :: l)[n + 1 - 1 - i]? = l[n - 1 - i]? := by
  rw [show n + 1 - 1 - i = n - 1 - i + 1 by omega, List.getElem?_cons_succ]

/-- The window after a shift holds the last bytes accepted (R33, R101). -/
theorem windowHeld_shift {s : State} (hI : Inv s) (k : Nat) (hk : k < (countByte s.mw_cnt).toNat) :
    (((s.cycle, s.port.inData) :: s.accepted)[k]?).map Prod.snd =
      some (slotAt (shiftWindow s.mw s.port.inData) k) := by
  rw [countByte_toNat] at hk
  match k, hk with
  | 0, _ => simp [slotAt_shiftWindow_zero]
  | 1, hk => simpa [slotAt_shiftWindow_one] using hI.windowHeld 0 (by omega)
  | 2, hk => simpa [slotAt_shiftWindow_two] using hI.windowHeld 1 (by omega)
  | k + 3, hk => omega

/-- Storing a payload byte keeps the buffer's canonical form and its bound (R50, R58). -/
theorem store_wf_within {s : State} (hI : Inv s) :
    Memory.wf s.storePayload.buf ∧ Memory.within s.storePayload.buf s.cfg.P_C := by
  rw [State.storePayload_buf]
  split
  · exact ⟨Memory.write_wf hI.bufWf _ _, Memory.write_within hI.bufWithin ‹_› _⟩
  · exact ⟨hI.bufWf, hI.bufWithin⟩

/-- Storing a payload byte writes no index below the cursor. -/
theorem read_storePayload_of_lt {s : State} {i : Nat} (h : i < s.cursor.toNat) :
    Memory.read s.storePayload.buf i = Memory.read s.buf i := by
  rw [State.storePayload_buf]
  split
  · exact Memory.read_write_ne _ _ _ _ h.ne
  · rfl

/-- After a payload byte is accepted and stored, the buffer holds the payload so far (INV10). -/
theorem payloadHeld_store {s t : State} (hI : Inv s) (hs : s.state = .rp) (hcfg : t.cfg = s.cfg)
    (hcur : t.cursor = s.cursor + 1) (hbuf : t.buf = s.storePayload.buf)
    (hacc : t.accepted = (s.cycle, s.port.inData) :: s.accepted) :
    ∀ i, i < min t.cursor.toNat t.cfg.P_C →
      (Memory.read t.buf i).isSome = true ∧ t.payloadByte i = Memory.read t.buf i := by
  intro i hi
  have hnat : t.cursor.toNat = s.cursor.toNat + 1 := hcur ▸ len_toNat_add_one (hI.inv5.1 hs)
  rw [hnat, hcfg] at hi
  rw [State.payloadByte, hacc, hbuf, hnat]
  obtain hlt | rfl : i < s.cursor.toNat ∨ i = s.cursor.toNat := by omega
  · rw [read_storePayload_of_lt hlt, getElem?_cons_of_lt _ _ hlt]
    exact hI.inv10 i (by omega)
  · have hroom : s.cursor.toNat < s.cfg.P_C := by omega
    simp [State.storePayload_buf, hroom]

/-- In the drain every byte that is still to be emitted has been written: it is a byte of the payload (INV6, INV10). -/
theorem Inv.read_eq_bufAt {s : State} (hI : Inv s) (hs : s.state = .la) {i : Nat} (hi : i < s.dlen) :
    Memory.read s.buf i = some (s.bufAt i) := by
  obtain ⟨hsome, -⟩ := hI.inv10 i (by rwa [hI.inv6 hs])
  obtain ⟨b, hb⟩ := Option.isSome_iff_exists.1 hsome
  simp [State.bufAt, hb]

/-- After one more byte of the drain is emitted, the bytes emitted are the buffer's, in order (R54). -/
theorem emittedHeld_emit {s t : State} (hI : Inv s) (hs : s.state = .la) (hp : s.lphase = .drain)
    (hbuf : t.buf = s.buf) (hem : t.emitted = (s.cycle, s.bufAt s.didx.toNat) :: s.emitted)
    (hdr : t.drained = s.didx.toNat + 1) :
    ∀ i, i < t.drained →
      (Memory.read t.buf i).isSome = true ∧ t.emittedByte t.drained i = Memory.read t.buf i := by
  intro i hi
  have hsd : s.drained = s.didx.toNat := by simp [State.drained, hp]
  rw [hdr] at hi
  rw [State.emittedByte, hem, hbuf, hdr]
  obtain hlt | rfl : i < s.didx.toNat ∨ i = s.didx.toNat := by omega
  · rw [getElem?_cons_of_lt _ _ hlt]
    simpa [State.emittedByte, hsd] using hI.emittedHeld i (by omega)
  · simp [hI.read_eq_bufAt hs (hI.inv7.1 ⟨hs, hp⟩)]

/-- An idle cycle that does not complete the timeout leaves the idle counter below it (INV9). -/
theorem countIdle_bound {s : State} (hI : Inv s) (hi : idleEnd s = false) :
    (s.cfg.P_IDLE_TIMEOUT = 0 → s.countIdle.idle_cnt = 0) ∧ s.countIdle.idle_cnt < max s.cfg.P_IDLE_TIMEOUT 1 := by
  obtain ⟨-, hoff, hlt⟩ := hI.inv9
  by_cases hT : s.cfg.P_IDLE_TIMEOUT = 0
  · simp [State.countIdle_idle_cnt, hT, hoff hT]
  · have hne : s.idle_cnt + 1 ≠ s.cfg.P_IDLE_TIMEOUT := by simpa [idleEnd, hT] using hi
    rw [countIdle_idle_cnt_of_inv hI (by simp [hi]) hT]
    omega

/-- A valid header's length is a multiple of 3 between 3 and 196608, and fits under REJECT (INV5, R74, R81). -/
theorem payloadLength_ok {s : State} (ho : rejOver s = false) :
    (payloadLength s.hdr_hi s.hdr_lo).toNat % 3 = 0 ∧ 3 ≤ (payloadLength s.hdr_hi s.hdr_lo).toNat ∧
      (payloadLength s.hdr_hi s.hdr_lo).toNat ≤ 196608 ∧
      (s.cfg.P_OVERSIZE = .reject → (payloadLength s.hdr_hi s.hdr_lo).toNat ≤ s.cfg.P_C) := by
  have hfit : s.cfg.P_OVERSIZE = .reject → (payloadLength s.hdr_hi s.hdr_lo).toNat ≤ s.cfg.P_C := by
    simpa [rejOver] using ho
  have hhi := s.hdr_hi.isLt
  have hlo := s.hdr_lo.isLt
  rw [payloadLength_toNat] at hfit ⊢
  exact ⟨by omega, by omega, by omega, hfit⟩

/-! ### Every step -/

/-- A state that has gone back to SeekingMagic from ReadingHeader or ReadingPayload meets the invariants (R175). -/
theorem inv_of_recovery {s t : State} (hI : Inv s) (hs : s.state = .rh ∨ s.state = .rp) (ht : Seeking t)
    (hmw : t.mw_cnt = s.mw_cnt) (hbuf : t.buf = s.buf) (hcfg : t.cfg = s.cfg) : Inv t := by
  obtain ⟨hempty, -⟩ := hI.inv2 (by rcases hs with hs | hs <;> simp [hs])
  exact inv_of_seeking ht (hcfg ▸ hI.legal) (windowHeld_of_empty (hmw.trans hempty)) (hbuf ▸ hI.bufWf)
    (hbuf ▸ hcfg ▸ hI.bufWithin)

/-- Outside SeekingMagic the window is empty (INV2). -/
theorem Inv.window_empty {s : State} (hI : Inv s) (hs : s.state ≠ .sm) : s.mw_cnt = 0 := (hI.inv2 hs).1

/-- Every case of a step keeps the invariants: each case names the clauses that its operation touches. -/
theorem stepCase_inv {s t : State} (hI : Inv s) (h : StepCase s t) : Inv t := by
  obtain ⟨⟨hroom, -⟩, hticks, hcycles⟩ := s.cfg.legal_iff.1 hI.legal
  cases h with
  | reset =>
    exact inv_of_seeking ⟨⟨rfl, rfl, rfl, rfl⟩, rfl, rfl, rfl, rfl⟩ hI.legal (windowHeld_of_empty rfl)
      hI.bufWf hI.bufWithin
  | seekIdle | drainWait => exact { hI with }
  | seekShift _ hs =>
    exact inv_of_seeking { hI.seeking hs with } hI.legal (windowHeld_shift hI) hI.bufWf hI.bufWithin
  | seekMatch _ hs =>
    have hk := hI.seeking hs
    exact { hI with
      inv1 := by simp [hk.lphase]
      inv2 := fun _ => ⟨rfl, rfl⟩
      inv3 := by simp
      inv4 := fun _ => hk.cursor
      inv5 := by simp
      inv6 := by simp
      inv7 := by simp [hk.didx]
      inv8 := by simp [hk.tick_cnt, hk.latch_cnt]
      inv9 := by simp
      inv10 := payloadHeld_of_cursor_zero hk.cursor
      emittedHeld := emittedHeld_of_undrained hk.lphase hk.didx
      windowHeld := windowHeld_of_empty rfl }
  | hdrWait _ hs _ hi | payWait _ hs _ hi =>
    obtain ⟨hoff, hlt⟩ := countIdle_bound hI hi
    rw [State.countIdle_idle_cnt] at hoff hlt
    exact { hI with inv9 := ⟨by simp [hs], hoff, hlt⟩ }
  | hdrHi _ hs | hdrLo _ hs =>
    exact { hI with
      inv3 := by simp [hs]
      inv9 := by simp
      inv10 := payloadHeld_of_cursor_zero (hI.inv4 (.inr hs))
      windowHeld := windowHeld_of_empty (hI.window_empty (by simp [hs])) }
  | hdrChkOk _ hs _ _ _ ho =>
    have hl := hI.unlatched (by simp [hs])
    have hlen := payloadLength_ok ho
    have ⟨_, hthree, _⟩ := hlen
    exact { hI with
      inv1 := by simp [hl.lphase]
      inv2 := fun _ => hI.inv2 (by simp [hs])
      inv3 := by simp
      inv4 := fun _ => rfl
      inv5 := ⟨fun _ => Nat.zero_lt_of_lt hthree, fun _ => hlen⟩
      inv6 := by simp
      inv7 := by simp [hl.didx]
      inv8 := by simp [hl.tick_cnt, hl.latch_cnt]
      inv9 := by simp
      inv10 := payloadHeld_of_cursor_zero rfl
      emittedHeld := emittedHeld_of_undrained hl.lphase hl.didx
      windowHeld := windowHeld_of_empty (hI.window_empty (by simp [hs])) }
  | hdrChkBad _ hs | hdrOversize _ hs | hdrRsvd _ hs | hdrTimeout _ hs =>
    exact inv_of_recovery hI (.inl hs)
      { hI.unlatched (by simp [hs]) with
        state := rfl, hdr_cnt := rfl, cursor := hI.inv4 (.inr hs), idle_cnt := rfl } rfl rfl rfl
  | payTimeout _ hs =>
    exact inv_of_recovery hI (.inr hs)
      { hI.unlatched (by simp [hs]) with state := rfl, hdr_cnt := rfl, cursor := rfl, idle_cnt := rfl } rfl rfl rfl
  | payStore _ hs _ hl =>
    have hu := hI.unlatched (by simp [hs])
    have hlt := hI.inv5.1 hs
    have hne : s.cursor.toNat + 1 ≠ s.plen.toNat := by simpa [payLast] using hl
    exact { hI with
      inv4 := by simp [hs]
      inv5 := ⟨fun _ => (len_toNat_add_one hlt).trans_lt (Nat.lt_of_le_of_ne hlt hne), hI.inv5.2⟩
      inv6 := by simp [hs]
      inv9 := by simp
      inv10 := payloadHeld_store hI hs rfl rfl (State.storePayload_buf s).symm rfl
      emittedHeld := emittedHeld_of_undrained hu.lphase hu.didx
      windowHeld := windowHeld_of_empty (hI.window_empty (by simp [hs]))
      bufWf := State.storePayload_buf s ▸ (store_wf_within hI).1
      bufWithin := State.storePayload_buf s ▸ (store_wf_within hI).2 }
  | payLast _ hs _ hl =>
    have hu := hI.unlatched (by simp [hs])
    have hcur := len_toNat_add_one (hI.inv5.1 hs)
    have hlen := hI.inv5.2 (.inl hs)
    have heq : s.cursor.toNat + 1 = s.plen.toNat := by simpa [payLast] using hl
    exact { hI with
      inv1 := by simp
      inv2 := fun _ => hI.inv2 (by simp [hs])
      inv3 := ⟨hI.inv3.1, fun _ => hI.inv3.2 (by simp [hs])⟩
      inv4 := by simp
      inv5 := ⟨by simp, fun _ => hlen⟩
      inv6 := fun _ => BitVec.eq_of_toNat_eq (hcur.trans heq)
      inv7 := ⟨fun _ => show 0 < min s.plen.toNat s.cfg.P_C by omega, fun _ => rfl⟩
      inv8 := by simp [hu.tick_cnt, hu.latch_cnt]
      inv9 := by simp
      inv10 := payloadHeld_store hI hs rfl rfl (State.storePayload_buf s).symm rfl
      emittedHeld := emittedHeld_of_undrained rfl rfl
      windowHeld := windowHeld_of_empty (hI.window_empty (by simp [hs]))
      bufWf := State.storePayload_buf s ▸ (store_wf_within hI).1
      bufWithin := State.storePayload_buf s ▸ (store_wf_within hI).2 }
  | drainEmit _ hs hp _ hl =>
    have hd := hI.inv7.1 ⟨hs, hp⟩
    have hcur := len_toNat_add_one (hd.trans_le (Nat.min_le_left _ _))
    have hne : s.didx.toNat + 1 ≠ s.dlen := by simpa [drainLast] using hl
    exact { hI with
      inv7 := ⟨fun _ => hcur.trans_lt (Nat.lt_of_le_of_ne hd hne), by simp [hs, hp]⟩
      emittedHeld := emittedHeld_emit hI hs hp rfl rfl ((if_neg (by simp [hp])).trans hcur) }
  | drainLast _ hs hp _ hl =>
    have heq : s.didx.toNat + 1 = s.dlen := by simpa [drainLast] using hl
    exact { hI with
      inv1 := fun _ => hs
      inv7 := by simp
      inv8 := ⟨fun _ => ⟨hcycles, hticks⟩, by simp [hs]⟩
      emittedHeld := emittedHeld_emit hI hs hp rfl rfl (by simp [State.drained, hs, heq, State.dlen]) }
  | settleCycle _ hs hp ht =>
    obtain ⟨hlt, hlatch⟩ := hI.inv8.1 ⟨hs, hp⟩
    have hne : s.tick_cnt + 1 ≠ s.cfg.P_TICK_CYCLES := by simpa [tickEnd] using ht
    rw [tick_countUp (by omega)]
    exact { hI with inv8 := ⟨fun _ => ⟨Nat.lt_of_le_of_ne hlt hne, hlatch⟩, by simp [hs, hp]⟩ }
  | settleTick _ hs hp _ hl =>
    obtain ⟨htick, hlatch⟩ := hI.inv8.1 ⟨hs, hp⟩
    have hne : s.latch_cnt + 1 ≠ s.cfg.P_LATCH_TICKS := by simpa [latchEnd] using hl
    rw [latch_countUp (by omega)]
    exact { hI with inv8 := ⟨fun _ => ⟨Nat.zero_lt_of_lt htick, Nat.lt_of_le_of_ne hlatch hne⟩, by simp [hs, hp]⟩ }
  | settleDone _ hs hp =>
    exact inv_of_seeking
      { lphase := rfl, didx := hI.inv7.2 (by simp [hp]), tick_cnt := rfl, latch_cnt := rfl
        state := rfl, hdr_cnt := hI.inv3.2 (by simp [hs]), cursor := rfl, idle_cnt := hI.inv9.1 (.inr hs) }
      hI.legal (windowHeld_of_empty (hI.window_empty (by simp [hs]))) hI.bufWf hI.bufWithin

/-! ### The widths of the counters -/

/-- A value below `n` fits in a register at least `⌈log2 n⌉` bits wide. -/
theorem lt_two_pow_width {n k w : Nat} (hk : k < n) (hw : ceilLog2 n ≤ w) : k < 2 ^ w :=
  hk.trans_le ((le_two_pow_ceilLog2 n).trans (Nat.pow_le_pow_right (by decide) hw))

/-- The settle counters stay below their ends, in the settle by INV8 and elsewhere because they are 0. -/
theorem Inv.settle_counters_lt {s : State} (hI : Inv s) :
    s.tick_cnt < s.cfg.P_TICK_CYCLES ∧ s.latch_cnt < s.cfg.P_LATCH_TICKS := by
  obtain ⟨-, hL, hT⟩ := s.cfg.legal_iff.1 hI.legal
  by_cases h : s.state = .la ∧ s.lphase = .settle
  · exact hI.inv8.1 h
  · obtain ⟨htick, hlatch⟩ := hI.inv8.2 h
    omega

/-- Settles O41: by cases on the step, and for the widths by the bounds of INV8 and INV9. -/
theorem stepKeepsTheInvariants : Obligations.StepKeepsTheInvariants := by
  intro s hI
  obtain ⟨htick, hlatch⟩ := hI.settle_counters_lt
  obtain ⟨-, -, hidle⟩ := hI.inv9
  exact ⟨fun t h => stepCase_inv hI (step_cases h), lt_two_pow_width htick (Nat.le_max_right _ _),
    lt_two_pow_width hlatch (Nat.le_max_right _ _), lt_two_pow_width hidle (Nat.le_max_right _ _)⟩

end Sys2Proof.Machine
end

section
/-!
PROOF. The output ports (spec/10_state.md R23 to R29) and the two handshakes (R28): which operations accept or emit a
byte, and that an operation reads in_data only where it accepts it.
-/
namespace Sys2Proof

/-- The operations whose rules accept the byte on the inbound port (R28). -/
def Instr.accepts : Instr → Bool
  | .seekShift _ | .seekMatch _ => true
  | .hdrHi _ | .hdrLo _ | .hdrChkOk _ | .hdrChkBad _ | .hdrOversize _ | .hdrRsvd _ => true
  | .payStore _ | .payLast _ => true
  | _ => false

/-- The operations whose rules emit a byte on the outbound port (R28). -/
def Instr.emits : Instr → Bool
  | .drainEmit _ | .drainLast _ => true
  | _ => false

end Sys2Proof

namespace Sys2Proof.Machine

/-! ### The output ports -/

theorem inReady_iff (s : State) : inReady s = true ↔ s.port.rst = false ∧ s.state ≠ .la := by
  simp [inReady]

theorem outValid_iff (s : State) :
    outValid s = true ↔ s.port.rst = false ∧ s.state = .la ∧ s.lphase = .drain := by
  simp [outValid, and_assoc]

/-- A read of an index that the PixelBuffer has (R50, R52). -/
theorem State.memRead_of_lt {s : State} {i : Nat} (h : i < s.cfg.P_C) : s.memRead i = some (s.bufAt i) := if_pos h

/-- While a byte is offered the output multiplexer reads the PixelBuffer at didx (R140). -/
theorem outData_of_outValid {s : State} (h : outValid s = true) : outData s = s.memRead s.didx.toNat := if_pos h

/-- While no byte is offered the output multiplexer drives 0x00 (R140). -/
theorem outData_of_not_outValid {s : State} (h : outValid s = false) : outData s = some 0x00 :=
  if_neg (by simp [h])

/-- Settles O34, by the definitions of the three ports. -/
theorem outputsAreFunctionsOfStatePhaseAndReset : Obligations.OutputsAreFunctionsOfStatePhaseAndReset := by
  intro s
  refine ⟨inReady_iff s, outValid_iff s, fun hv hd => ?_, outData_of_not_outValid⟩
  rw [outData_of_outValid hv, State.memRead_of_lt hd]

/-- Settles O35: the outputs read rst, state, lphase and the buffer at didx, and no other input. -/
theorem outputsIgnoreTheInputHandshakes : Obligations.OutputsIgnoreTheInputHandshakes := by
  intro s t hv hr
  have hs : s.state = t.state := (congrArg State.state hv :)
  have hp : s.lphase = t.lphase := (congrArg State.lphase hv :)
  have hm : s.memRead s.didx.toNat = t.memRead t.didx.toNat :=
    (congrArg (fun v : State => v.memRead v.didx.toNat) hv :)
  have ho : outValid s = outValid t := by simp only [outValid, hr, hs, hp]
  refine ⟨?inReady, ho, ?outData, congrArg ProtocolState.code hs, congrArg LPhase.code hp⟩
  case inReady => simp only [inReady, hr, hs]
  case outData => simp only [outData, ho, hm]

/-! ### The handshakes -/

/-- An accepting operation is selected exactly on the inbound handshake. -/
theorem accIn_of_selectedIn {s : State} {i : Instr} (h : SelectedIn s i) : accIn s = i.accepts := by
  cases i <;> simp_all [SelectedIn, Instr.accepts, accIn, inReady]

/-- An emitting operation is selected exactly on the outbound handshake. -/
theorem accOut_of_selectedIn {s : State} {i : Instr} (h : SelectedIn s i) : accOut s = i.emits := by
  cases i <;> simp_all [SelectedIn, Instr.emits, accOut, outValid]

/-- The inbound record gains the byte on the port in the accepting operations only. -/
theorem exec_accepted {s t : State} {i : Instr} (h : exec i s = .next t) :
    t.accepted = if i.accepts then (s.cycle, s.port.inData) :: s.accepted else s.accepted := by
  cases i with
  | drainEmit => obtain ⟨-, rfl⟩ := drainEmit_next h; rfl
  | drainLast => obtain ⟨-, rfl⟩ := drainLast_next h; rfl
  | _ => cases h; simp [Instr.accepts]

/-- The outbound record gains the byte at didx in the emitting operations only. -/
theorem exec_emitted {s t : State} {i : Instr} (h : exec i s = .next t) :
    if i.emits then
      s.memRead s.didx.toNat = some (s.bufAt s.didx.toNat) ∧
        t.emitted = (s.cycle, s.bufAt s.didx.toNat) :: s.emitted
    else t.emitted = s.emitted := by
  cases i with
  | drainEmit => obtain ⟨hd, rfl⟩ := drainEmit_next h; exact ⟨State.memRead_of_lt hd, rfl⟩
  | drainLast => obtain ⟨hd, rfl⟩ := drainLast_next h; exact ⟨State.memRead_of_lt hd, rfl⟩
  | _ => cases h; simp [Instr.emits]

/-- No operation both accepts and emits: in Latching nothing is accepted (R148). -/
theorem not_accepts_and_emits (i : Instr) : ¬(i.accepts = true ∧ i.emits = true) := by
  cases i <;> simp [Instr.accepts, Instr.emits]

/-- Settles O36: the operation of the cycle accepts, or emits, exactly on the handshake that selects it. -/
theorem eventsAreExactlyTheHandshakes : Obligations.EventsAreExactlyTheHandshakes := by
  intro s t h
  obtain ⟨-, i, t', hd, he, rfl⟩ := step_next h
  have hsel := selectedIn_of_decodeSel hd
  have hem := exec_emitted he
  have hout := accOut_of_selectedIn hsel
  rw [accIn_of_selectedIn hsel, hout]
  refine ⟨exec_accepted (t := t') he, fun ho => ?emits, fun ho => ?silent, not_accepts_and_emits i⟩
  case emits =>
    rw [if_pos ho] at hem
    obtain ⟨hread, hrec⟩ := hem
    have hv : outValid s = true := Bool.and_elim_left (hout.trans ho)
    exact ⟨_, (outData_of_outValid hv).trans hread, hrec⟩
  case silent => simpa [ho] using hem

/-! ### in_data is read only where it is accepted -/

/-- The state with the byte `b` on the inbound port in this cycle, all other levels as they are. -/
def State.withData (s : State) (b : Byte) : State := { s with feed := { s.port with inData := b } :: s.feed.tail }

/-- The row of a cycle in which no byte is accepted does not depend on in_data: mmatch and chk_ok are not read. -/
theorem rowFor_withData {s : State} (b : Byte) (h : accIn s = false) : rowFor (s.withData b) = rowFor s := by
  have hport : (s.withData b).port = { s.port with inData := b } := rfl
  have hstate : (s.withData b).state = s.state := rfl
  obtain hv | hr | hs : s.port.inValid = false ∨ s.port.rst = true ∨ s.state = .la := by
    simpa [accIn, inReady, or_iff_not_imp_left] using h
  · simp only [rowFor, hport, hv]
    rfl
  · simp only [rowFor, hport, hr, if_true]
  · simp only [rowFor, hport, hstate, hs]
    rfl

/-- An operation that accepts no byte does not read in_data. -/
theorem edge_exec_withData (s : State) (b : Byte) {i : Instr} (h : i.accepts = false) :
    edge (exec i (s.withData b)) = edge (exec i s) := by
  cases i with
  | seekShift | seekMatch | hdrHi | hdrLo | hdrChkOk | hdrChkBad | hdrOversize | hdrRsvd | payStore | payLast => cases h
  | hdrWait | payWait =>
    simp only [exec, execHdrWait, execPayWait, countIdle_eq]
    rfl
  | drainEmit | drainLast =>
    have hm : (s.withData b).memRead (s.withData b).didx.toNat = s.memRead s.didx.toNat := rfl
    simp only [exec, execDrainEmit, execDrainLast, hm]
    cases s.memRead s.didx.toNat <;> rfl
  | _ => rfl

/-- Settles O47: where no byte is accepted, neither the choice of the operation nor its meaning reads in_data. -/
theorem dataNotAcceptedIsNeverRead : Obligations.DataNotAcceptedIsNeverRead := by
  intro s p l b hfeed hacc
  have hs : { s with feed := { p with inData := b } :: l } = s.withData b := by
    simp only [State.withData, State.port_of_feed hfeed, hfeed, List.tail_cons]
  have hno : ((rowFor s).make 0).accepts = false := (accIn_of_selectedIn (selectedIn_rowFor s 0)).symm.trans hacc
  rw [hs]
  cases hl : s.cfg.legal with
  | false => rw [step_illegal hl, step_illegal (s := s.withData b) hl]
  | true => rw [step_legal hl, step_legal (s := s.withData b) hl, rowFor_withData b hacc, edge_exec_withData s b hno]

end Sys2Proof.Machine
end

section
/-!
PROOF. What a cycle reads and writes: the next registers are a function of the registers, the PixelBuffer, the build and
this cycle's ports (spec/10_state.md R42; spec/60_exceptions.md R176), and each register has only the writers that its
rule lists (R31 to R44).
-/
namespace Sys2Proof.Machine

/-! ### What a cycle reads -/

/-- All that a cycle may read: the registers, the PixelBuffer, the build and this cycle's ports, the rest cleared. -/
def State.readable (s : State) : State := { s.view with feed := [s.port] }

/-- A step's answer without the environment and the records. -/
def viewOf : Host.Outcome State Fault Refusal → Host.Outcome State Fault Refusal
  | .next t => .next t.view
  | .fault f => .fault f
  | .refused r => .refused r

/-- The clock edge changes no register. -/
theorem viewOf_edge (o : Host.Outcome State Fault Refusal) : viewOf (edge o) = viewOf o := by
  cases o <;> rfl

/-- What an operation answers on the registers depends on the readable part alone. -/
theorem viewOf_exec_readable (s : State) (i : Instr) : viewOf (exec i s.readable) = viewOf (exec i s) := by
  cases i with
  | hdrWait | payWait =>
    simp only [exec, execHdrWait, execPayWait, countIdle_eq]
    rfl
  | payStore | payLast =>
    simp only [exec, execPayStore, execPayLast, accept_storePayload_eq]
    rfl
  | drainEmit | drainLast =>
    have hm : s.readable.memRead s.readable.didx.toNat = s.memRead s.didx.toNat := rfl
    simp only [exec, execDrainEmit, execDrainLast, hm]
    cases s.memRead s.didx.toNat <;> rfl
  | _ => rfl

/-- The row of a cycle depends on the readable part alone (R78). -/
theorem rowFor_readable (s : State) : rowFor s.readable = rowFor s := rfl

/-- What a step answers on the registers depends on the readable part alone. -/
theorem viewOf_step_readable (s : State) : viewOf (step s.readable) = viewOf (step s) := by
  cases hl : s.cfg.legal with
  | false => rw [step_illegal hl, step_illegal (s := s.readable) hl]
  | true =>
    rw [step_legal hl, step_legal (s := s.readable) hl, viewOf_edge, viewOf_edge, rowFor_readable, viewOf_exec_readable]

/-- Settles O48: the two states have the same readable part. -/
theorem nextRegistersDependOnRegistersAndPortsOnly : Obligations.NextRegistersDependOnRegistersAndPortsOnly := by
  intro s s' t hv hp h
  have hread : s.readable = s'.readable := by rw [State.readable, State.readable, hv, hp]
  have key : viewOf (step s') = .next t.view := by
    rw [← viewOf_step_readable, ← hread, viewOf_step_readable, h]
    rfl
  cases h' : step s' with
  | next t' =>
    rw [h'] at key
    exact ⟨t', rfl, Host.Outcome.next.inj key⟩
  | fault f =>
    rw [h'] at key
    cases key
  | refused r =>
    rw [h'] at key
    cases key

/-! ### What an operation writes -/

/-- Settles O39: operation by operation, a register is one that its rule writes or it is kept. -/
theorem eachRegisterHasOnlyItsListedWriters : Obligations.EachRegisterHasOnlyItsListedWriters := by
  intro i s t h
  cases i with
  | drainEmit =>
    obtain ⟨-, rfl⟩ := drainEmit_next h
    simp
  | drainLast =>
    obtain ⟨-, rfl⟩ := drainLast_next h
    simp
  | _ =>
    cases h
    simp

end Sys2Proof.Machine
end

section
/-!
PROOF. The PixelBuffer (spec/20_memory.md): what MemRead gives after MemWrite (R51, R52), that an index at or above P_C
has no byte (R50), and that a step writes the buffer only for a payload byte below P_C (R58, R59).
-/
namespace Sys2Proof.Machine

/-! ### Read and write -/

/-- The PixelBuffer has no byte at an index at or above P_C (R50). -/
theorem State.memRead_of_le {s : State} {i : Nat} (h : s.cfg.P_C ≤ i) : s.memRead i = none := if_neg h.not_gt

/-- After a write the written index holds the written byte, and every other index what it held. -/
theorem State.bufAt_memWrite (s : State) (i j : Nat) (v : Byte) :
    (s.memWrite i v).bufAt j = if j = i then v else s.bufAt j := by
  by_cases h : j = i
  · simp [State.bufAt, h]
  · simp [State.bufAt, h, Memory.read_write_ne]

/-- MemRead after MemWrite at an index of the buffer (R51, R52). -/
theorem State.memRead_memWrite {s : State} {i : Nat} (hi : i < s.cfg.P_C) (j : Nat) (v : Byte) :
    (s.memWrite i v).memRead j = if j = i then some v else s.memRead j := by
  rcases lt_or_ge j s.cfg.P_C with hj | hj
  · rw [State.memRead_of_lt (s := s.memWrite i v) hj, State.memRead_of_lt hj, State.bufAt_memWrite, apply_ite some]
  · rw [State.memRead_of_le (s := s.memWrite i v) hj, State.memRead_of_le hj, if_neg (hi.trans_le hj).ne']

/-- Settles O37: a write changes what is read at its own index alone, and no register. -/
theorem bufferReadsWhatWasLastWritten : Obligations.BufferReadsWhatWasLastWritten :=
  fun _ _ j v hi => ⟨State.memRead_memWrite hi j v, State.memRead_of_le, rfl⟩

/-- Settles O33: both drain operations read the buffer at didx, where it has no byte. -/
theorem drainOutsideTheBufferFaults : Obligations.DrainOutsideTheBufferFaults := by
  intro s u hd
  have hnone := State.memRead_of_le hd
  simp only [exec, execDrainEmit, execDrainLast, hnone, and_self]

/-! ### What a step writes -/

/-- A step leaves the PixelBuffer as it is or, accepting a byte in ReadingPayload below P_C, stores it at the cursor
(R132, R133). -/
theorem step_buf {s t : State} (h : step s = .next t) :
    t.buf = s.buf ∨
      (s.state = .rp ∧ accIn s = true ∧ s.cursor.toNat < s.cfg.P_C) ∧
        t.buf = Memory.write s.buf s.cursor.toNat s.port.inData := by
  cases step_cases h with
  | payStore hr hs hv | payLast hr hs hv =>
    have hacc : accIn s = true := by simp [accIn, inReady, hr, hs, hv]
    by_cases hroom : s.cursor.toNat < s.cfg.P_C
    · exact .inr ⟨⟨hs, hacc, hroom⟩, if_pos hroom⟩
    · exact .inl (if_neg hroom)
  | _ => exact .inl rfl

/-- Settles O38: the one write a step can do is below P_C, and a write there keeps the form and the bound. -/
theorem stepKeepsTheBufferCanonicalAndWritesOnlyPayload :
    Obligations.StepKeepsTheBufferCanonicalAndWritesOnlyPayload := by
  intro s t hwf hin h
  obtain ⟨-, -, hcfg⟩ := step_frame h
  rw [hcfg]
  obtain hbuf | ⟨hwhen, hbuf⟩ := step_buf h
  · rw [hbuf]
    exact ⟨hwf, hin, fun hne => absurd rfl hne⟩
  · have ⟨_, _, hroom⟩ := hwhen
    rw [hbuf]
    exact ⟨Memory.write_wf hwf _ _, Memory.write_within hin hroom _, fun _ => hwhen⟩

end Sys2Proof.Machine
end

section
/-!
PROOF. The selector word (spec/30_encoding.md R78): each of its fields, the comparisons behind its eight condition bits
(R79 to R86), and that every word is the SEL of some state of a legal build.
-/
namespace Sys2Proof.Machine

/-! ### The fields of SEL -/

/-- Two adjacent bits, the higher one first, as a field of a word. -/
theorem extractLsb'_two_eq {w : Sel} {n : Nat} {x : BitVec 2} (h0 : w.getLsbD n = x.getLsbD 0)
    (h1 : w.getLsbD (n + 1) = x.getLsbD 1) : w.extractLsb' n 2 = x := by
  apply BitVec.eq_of_getLsbD_eq
  intro k hk
  obtain rfl | rfl : k = 0 ∨ k = 1 := by omega
  · simpa using h0
  · simpa using h1

/-- One bit as a field of a word. -/
theorem extractLsb'_one_eq {w : Sel} {n : Nat} {x : BitVec 1} (h : w.getLsbD n = x.getLsbD 0) :
    w.extractLsb' n 1 = x := by
  apply BitVec.eq_of_getLsbD_eq
  intro k hk
  obtain rfl : k = 0 := by omega
  simpa using h

/-- Settles O5: bit by bit, the fields of two bits and of one put together again. -/
theorem selectorWordHoldsRegistersInputsAndConditions :
    Obligations.SelectorWordHoldsRegistersInputsAndConditions := by
  intro s
  have hbits := sel_bits s
  simp only [range_16, List.map_cons, List.map_nil, List.cons.injEq, and_true] at hbits
  obtain ⟨b0, b1, b2, b3, b4, b5, b6, b7, b8, b9, b10, b11, b12, b13, b14, b15⟩ := hbits
  have hstate : s.state.code = match s.state with | .sm => 0b00#2 | .rh => 0b01#2 | .rp => 0b10#2 | .la => 0b11#2 := by
    cases s.state <;> rfl
  have hphase : s.lphase.code = match s.lphase with | .drain => 0#1 | .settle => 1#1 := by
    cases s.lphase <;> rfl
  exact ⟨b15, (extractLsb'_two_eq b13 b14).trans hstate, (extractLsb'_one_eq b12).trans hphase,
    extractLsb'_two_eq b10 b11, b9, b8, b7, b6, b5, b4, b3, b2, b1, b0⟩

/-! ### The header's length -/

/-- The pixel count is big-endian (R73). -/
theorem pixelCount_toNat (hi lo : Byte) : (pixelCount hi lo).toNat = 256 * hi.toNat + lo.toNat := by
  rw [pixelCount, BitVec.toNat_append, Nat.shiftLeft_eq, Nat.mul_comm, ← Nat.two_pow_add_eq_or_of_lt lo.isLt]

/-- Settles O57: the length is 3 (n + 1) for the pixel count n, a natural below 65536. -/
theorem payloadLengthIsThreeTimesPixelsWithoutOverflow :
    Obligations.PayloadLengthIsThreeTimesPixelsWithoutOverflow := by
  intro hi lo
  have hpix := pixelCount_toNat hi lo
  have hlen : (payloadLength hi lo).toNat = 3 * ((pixelCount hi lo).toNat + 1) := by
    rw [payloadLength_toNat, hpix]
  have hlt := (pixelCount hi lo).isLt
  have hzero : pixelCount hi lo = 0x0000 ↔ (pixelCount hi lo).toNat = 0 := BitVec.toNat_inj.symm
  have hmax : pixelCount hi lo = 0xFFFF ↔ (pixelCount hi lo).toNat = 65535 := BitVec.toNat_inj.symm
  rw [hzero, hmax, hlen]
  exact ⟨hpix, rfl, by omega, by omega, by omega, by omega, by omega⟩

/-! ### The conditions -/

/-- Two words put together are equal exactly when their parts are. -/
theorem append_eq_append_iff {m n : Nat} {a c : BitVec m} {b d : BitVec n} :
    a ++ b = c ++ d ↔ a = c ∧ b = d := by
  constructor
  · intro h
    have hlow : b = d := by
      rw [← BitVec.extractLsb'_append_eq_right (a := a) (b := b), h, BitVec.extractLsb'_append_eq_right]
    subst hlow
    exact ⟨(BitVec.append_left_inj b).1 h, rfl⟩
  · rintro ⟨rfl, rfl⟩
    rfl

/-- The match of the marker, slot by slot (R79). -/
theorem mmatch_iff (s : State) : mmatch s = true ↔
    2 ≤ s.mw_cnt.toNat ∧ slot1 s.mw = s.cfg.P_M0 ∧ slot0 s.mw = s.cfg.P_M1 ∧ s.port.inData = s.cfg.P_M2 := by
  simp only [mmatch, marker, Bool.and_eq_true, decide_eq_true_eq, beq_iff_eq, append_eq_append_iff, and_assoc]

/-- The rejection of a length over capacity, on naturals (R81). -/
theorem rejOver_iff (s : State) : rejOver s = true ↔
    s.cfg.P_OVERSIZE = .reject ∧ 3 * (256 * s.hdr_hi.toNat + s.hdr_lo.toNat + 1) > s.cfg.P_C := by
  simp only [rejOver, Bool.and_eq_true, decide_eq_true_eq, payloadLength_toNat]

/-- The last byte of the drain (R83). -/
theorem drainLast_iff (s : State) : drainLast s = true ↔ s.didx.toNat + 1 = min s.plen.toNat s.cfg.P_C :=
  beq_iff_eq

/-- The end of the idle timeout, which only a timeout of at least one cycle has (R86). -/
theorem idleEnd_iff (s : State) : idleEnd s = true ↔
    s.cfg.P_IDLE_TIMEOUT ≠ 0 ∧ s.idle_cnt + 1 = s.cfg.P_IDLE_TIMEOUT := by
  simp only [idleEnd, Bool.and_eq_true, bne_iff_ne, beq_iff_eq]

/-- Settles O6: each condition is the comparison that its rule writes. -/
theorem conditionsCompareAsTheirRulesSay : Obligations.ConditionsCompareAsTheirRulesSay := by
  intro s
  refine ⟨mmatch_iff s, beq_iff_eq, rejOver_iff s, beq_iff_eq, drainLast_iff s, fun hfit => ?noTruncation,
    beq_iff_eq, beq_iff_eq, idleEnd_iff s⟩
  case noTruncation => rw [drainLast_iff, Nat.min_eq_left hfit]

/-! ### A state for every selector word -/

theorem ProtocolState.code_ofCode (b : BitVec 2) : (ProtocolState.ofCode b).code = b := by
  revert b
  decide

theorem LPhase.code_ofCode (b : BitVec 1) : (LPhase.ofCode b).code = b := by
  revert b
  decide

/-- A low byte that gives the header any valid checksum wanted (R77). -/
theorem checksum_of_lo (c : Params) (hi x : Byte) : checksum c hi (hi ^^^ c.P_K ^^^ x) = x := by
  rw [checksum, BitVec.xor_assoc hi c.P_K x, ← BitVec.xor_assoc hi hi, BitVec.xor_self, BitVec.zero_xor,
    BitVec.xor_comm c.P_K, BitVec.xor_assoc, BitVec.xor_self, BitVec.xor_zero]

section
variable (s : State) (w : Sel)

theorem presentSel_mmatch : mmatch (s.presentSel w) = w.getLsbD 7 := by
  have hcnt : (s.presentSel w).mw_cnt = if w.getLsbD 7 then 2 else 0 := rfl
  have hmw : (s.presentSel w).mw = if w.getLsbD 7 then 0x004164 else 0x000000 := rfl
  have hdata : (s.presentSel w).port.inData = 0x61 := rfl
  have hmarker : marker (s.presentSel w).cfg = 0x416461 :=
    show 0x41#8 ++ 0x64#8 ++ 0x61#8 = 0x416461#24 by decide
  rw [mmatch, hcnt, hmw, hdata, hmarker]
  cases w.getLsbD 7 <;> rfl

theorem presentSel_chkOk : chkOk (s.presentSel w) = w.getLsbD 6 := by
  have hsum : checksum (s.presentSel w).cfg (s.presentSel w).hdr_hi (s.presentSel w).hdr_lo =
      if w.getLsbD 6 then 0x61 else 0x60 := checksum_of_lo _ _ _
  have hdata : (s.presentSel w).port.inData = 0x61 := rfl
  rw [chkOk, hsum, hdata]
  cases w.getLsbD 6 <;> rfl

/-- Only the high byte decides: 0xFF gives a length over 1500, and 0x00 a length of at most 768 (R81). -/
theorem presentSel_rejOver : rejOver (s.presentSel w) = w.getLsbD 5 := by
  have hlo := (s.presentSel w).hdr_lo.isLt
  have hhi : (s.presentSel w).hdr_hi = presentHi (w.getLsbD 5) := rfl
  have hcap : (s.presentSel w).cfg.P_C = 1500 := rfl
  have hpol : (s.presentSel w).cfg.P_OVERSIZE = .reject := rfl
  have hFF : (presentHi true).toNat = 255 := rfl
  have h00 : (presentHi false).toNat = 0 := rfl
  rw [Bool.eq_iff_iff, rejOver_iff, hhi, hcap]
  cases w.getLsbD 5 with
  | false => exact ⟨fun h => by omega, nofun⟩
  | true => exact ⟨fun _ => rfl, fun _ => ⟨hpol, by omega⟩⟩

theorem presentSel_payLast : payLast (s.presentSel w) = w.getLsbD 4 := by
  change ((if w.getLsbD 4 then 2 else 0 : Len).toNat + 1 == 3) = _
  cases w.getLsbD 4 <;> rfl

theorem presentSel_drainLast : drainLast (s.presentSel w) = w.getLsbD 3 := by
  change ((if w.getLsbD 3 then 2 else 0 : Len).toNat + 1 == min 3 1500) = _
  cases w.getLsbD 3 <;> rfl

theorem presentSel_tickEnd : tickEnd (s.presentSel w) = w.getLsbD 2 := by
  change ((if w.getLsbD 2 then 1 else 0) + 1 == 2) = _
  cases w.getLsbD 2 <;> rfl

theorem presentSel_latchEnd : latchEnd (s.presentSel w) = w.getLsbD 1 := by
  change ((if w.getLsbD 1 then 4 else 0) + 1 == 5) = _
  cases w.getLsbD 1 <;> rfl

theorem presentSel_idleEnd : idleEnd (s.presentSel w) = w.getLsbD 0 := by
  change ((if w.getLsbD 0 then 1 else 0) != 0 && 0 + 1 == if w.getLsbD 0 then 1 else 0) = _
  cases w.getLsbD 0 <;> rfl

/-- A presented word is the SEL that the block forms, bit by bit (R78). -/
theorem sel_presentSel : sel (s.presentSel w) = w := by
  have hstate : (s.presentSel w).state.code = w.extractLsb' 13 2 := ProtocolState.code_ofCode _
  have hphase : (s.presentSel w).lphase.code = w.extractLsb' 12 1 := LPhase.code_ofCode _
  have hcnt : (s.presentSel w).hdr_cnt = w.extractLsb' 10 2 := rfl
  have hport : (s.presentSel w).port = ⟨w.getLsbD 15, w.getLsbD 9, 0x61, w.getLsbD 8⟩ := rfl
  have hbits : (List.range 16).map (sel (s.presentSel w)).getLsbD = (List.range 16).map w.getLsbD := by
    rw [sel_bits, hstate, hphase, hcnt, hport, presentSel_mmatch, presentSel_chkOk, presentSel_rejOver,
      presentSel_payLast, presentSel_drainLast, presentSel_tickEnd, presentSel_latchEnd, presentSel_idleEnd]
    simp [range_16]
  exact BitVec.eq_of_getLsbD_eq fun k hk => List.map_inj_left.1 hbits k (List.mem_range.2 hk)

/-- The build of a presented word is legal (R195). -/
theorem presentSel_legal : (s.presentSel w).cfg.legal = true := by
  simp [Params.legal_iff, State.presentSel, presentBuild]

end

/-- The table word of 16 bits is the selector word itself. -/
theorem ofNat_toNat_mod (w : Sel) : BitVec.ofNat 16 (w.toNat % 2 ^ 16) = w := by
  rw [Nat.mod_eq_of_lt w.isLt, BitVec.ofNat_toNat, BitVec.setWidth_eq]

end Sys2Proof.Machine
end

section
/-!
PROOF. Decoding and encoding (spec/30_encoding.md R87 to R89): no two rows of the map match one word and every word has
its row, so the decoder and the encoder are inverse to each other.
-/
namespace Sys2Proof

/-! ### The rows of the map -/

/-- Two rows cannot match one word when they want different values in a bit that both read. -/
theorem Row.not_selects_of_conflict {r q : Row} {w : Sel} (h : r.pattern &&& q.mask ≠ q.pattern &&& r.mask)
    (hr : r.selects w = true) : ¬q.selects w = true := by
  intro hq
  rw [Row.selects, beq_iff_eq] at hr hq
  apply h
  rw [← hr, ← hq, BitVec.and_assoc, BitVec.and_assoc, BitVec.and_comm r.mask]

/-- Any two rows of the map want different values in a bit that both read (R89). -/
theorem rows_conflict : rows.Pairwise fun r q => r.pattern &&& q.mask ≠ q.pattern &&& r.mask := by decide

/-- A row asks for values only in the bits that it reads (R88). -/
theorem pattern_and_mask : ∀ r ∈ rows, r.pattern &&& r.mask = r.pattern := by decide

/-- A row's operation is the row's, with the unread bits it was given. -/
theorem row_make : ∀ r ∈ rows, ∀ u, (r.make u).row = r ∧ (r.make u).unread = u := by
  simp only [rows, List.cons_append, List.nil_append, List.forall_mem_cons, List.not_mem_nil, IsEmpty.forall_iff,
    implies_true, and_true]
  and_intros
  all_goals exact fun _ => ⟨rfl, rfl⟩

/-- An operation's row is one of the map. -/
theorem Instr.row_mem (i : Instr) : i.row ∈ rows := by
  cases i <;> simp [rows, Instr.row]

/-- An operation is what its row makes of its unread bits. -/
theorem Instr.make_unread (i : Instr) : i.row.make i.unread = i := by
  cases i <;> rfl

/-- At most one row matches a word (R89). -/
theorem row_unique {r q : Row} {w : Sel} (hr : r ∈ rows) (hq : q ∈ rows) (hrw : r.selects w = true)
    (hqw : q.selects w = true) : r = q := by
  have hsymm : Std.Symm fun r q : Row => r.pattern &&& q.mask ≠ q.pattern &&& r.mask := ⟨fun _ _ h => h.symm⟩
  by_contra hne
  exact Row.not_selects_of_conflict (rows_conflict.forall hr hq hne) hrw hqw

/-! ### The decoder -/

/-- Every word has an operation: it is the SEL of a state (R78, R89). -/
theorem decodeSel_isSome (w : Sel) : (decodeSel w).isSome = true := by
  have hdec := Machine.decodeSel_sel (Machine.State.reset.presentSel w)
  rw [Machine.sel_presentSel] at hdec
  rw [hdec, Option.isSome_some]

/-- The row found for a word matches it. -/
theorem find_selects {r : Row} {w : Sel} (h : (rows.find? fun r => r.selects w) = some r) : r.selects w = true :=
  List.find?_some (p := fun r : Row => r.selects w) h

/-- The decoder answers with the operation that the matching row makes of the word's unread bits (R87). -/
theorem decodeSel_eq_some_iff {w : Sel} {i : Instr} : decodeSel w = some i ↔
    ∃ r ∈ rows, r.selects w = true ∧ r.make (w &&& ~~~r.mask) = i := by
  constructor
  · intro h
    obtain ⟨r, hfind, hi⟩ := Option.map_eq_some_iff.1 h
    exact ⟨r, List.mem_of_find?_eq_some hfind, find_selects hfind, hi⟩
  · rintro ⟨r, hr, hrw, rfl⟩
    have hfound : (rows.find? fun r => r.selects w).isSome = true := List.find?_isSome.2 ⟨r, hr, hrw⟩
    obtain ⟨q, hfind⟩ := Option.isSome_iff_exists.1 hfound
    obtain rfl := row_unique hr (List.mem_of_find?_eq_some hfind) hrw (find_selects hfind)
    rw [decodeSel, hfind, Option.map_some]

/-- Settles O3: the row found is the only one, since any later one conflicts with it. -/
theorem everySelectorWordMatchesExactlyOneRow : Obligations.EverySelectorWordMatchesExactlyOneRow := by
  refine ⟨rfl, fun w => ⟨?_, decodeSel_isSome w⟩⟩
  obtain ⟨i, hi⟩ := Option.isSome_iff_exists.1 (decodeSel_isSome w)
  obtain ⟨r, hfind, -⟩ := Option.map_eq_some_iff.1 hi
  obtain ⟨hrw, before, after, hrows, hbefore⟩ := List.find?_eq_some_iff_append.1 hfind
  have hconf := rows_conflict
  rw [hrows] at hconf
  have hafter : ∀ q ∈ after, ¬q.selects w = true := fun q hq =>
    Row.not_selects_of_conflict (List.rel_of_pairwise_cons (List.pairwise_append.1 hconf).2.1 hq) hrw
  rw [hrows, List.countP_append, List.countP_cons, if_pos hrw,
    List.countP_eq_zero.2 fun q hq => by simpa using hbefore q hq, List.countP_eq_zero.2 hafter]

/-! ### Encoding and decoding -/

/-- A well-formed operation's word matches the operation's row. -/
theorem row_selects_encode {i : Instr} (h : i.wf = true) : i.row.selects (encode i) = true :=
  beq_iff_eq.2 (or_and_mask _ _ _ (pattern_and_mask _ i.row_mem) (eq_of_beq h))

/-- A word that a row's match bits and unread bits make has the unread bits where the row does not read. -/
theorem or_and_not_mask {m p u : Sel} (hp : p &&& m = p) (hu : u &&& m = 0) : (p ||| u) &&& ~~~m = u := by
  have hmatch : p &&& ~~~m = 0 := by
    rw [← hp, BitVec.and_assoc, BitVec.and_not_self]
    exact BitVec.and_zero
  have hunread : u &&& ~~~m = u := calc
    u &&& ~~~m = u &&& m ||| u &&& ~~~m := by rw [hu]; exact BitVec.zero_or.symm
    _ = u := by rw [← BitVec.and_or_distrib_left, BitVec.or_not_self, BitVec.and_allOnes]
  rw [BitVec.and_or_distrib_right, hmatch, hunread]
  exact BitVec.zero_or

/-- Decoding the word of a well-formed operation gives it back (R88). -/
theorem decodeSel_encode {i : Instr} (h : i.wf = true) : decodeSel (encode i) = some i :=
  decodeSel_eq_some_iff.2 ⟨i.row, i.row_mem, row_selects_encode h, by
    rw [encode, or_and_not_mask (pattern_and_mask _ i.row_mem) (eq_of_beq h), i.make_unread]⟩

/-- A word decodes to the well-formed operation that encodes to it. -/
theorem decodeSel_of_encode_eq {w : Sel} {i : Instr} (h : i.wf = true) (hw : encode i = w) : decodeSel w = some i :=
  hw ▸ decodeSel_encode h

/-- The bytes of a word put together again, its bits 7 to 0 first. -/
theorem append_selBytes (w : Sel) : w.extractLsb' 8 8 ++ w.extractLsb' 0 8 = w := by
  rw [BitVec.extractLsb'_append_extractLsb'_eq_extractLsb' (start₁ := 0) (len₁ := 8) rfl]
  exact BitVec.extractLsb'_eq_self

/-- Decoding the bytes of a word answers what decoding the word does. -/
theorem decodeBytes_selBytes {w : Sel} {i : Instr} (h : decodeSel w = some i) : decodeBytes (selBytes w) = .ok i := by
  simp only [selBytes, decodeBytes, append_selBytes, h]

/-- Settles O1: the operation's own row is the one that matches its word, and gives the unread bits back. -/
theorem decodeOfEncodeIsTheInstruction : Obligations.DecodeOfEncodeIsTheInstruction :=
  fun _ h => ⟨decodeSel_encode h, decodeBytes_selBytes (decodeSel_encode h)⟩

/-- Settles O2: the row's match bits are the word's where the row reads it, and the operation holds the others. -/
theorem encodeOfDecodeIsTheWord : Obligations.EncodeOfDecodeIsTheWord := by
  intro w i h
  obtain ⟨r, hr, hrw, rfl⟩ := decodeSel_eq_some_iff.1 h
  obtain ⟨hrow, hunread⟩ := row_make r hr (w &&& ~~~r.mask)
  have hpat : w &&& r.mask = r.pattern := eq_of_beq hrw
  rw [Instr.wf, encode, hrow, hunread]
  constructor
  · rw [beq_iff_eq, BitVec.and_assoc, BitVec.not_and_self]
    exact BitVec.and_zero
  · rw [← hpat, ← BitVec.and_or_distrib_left, BitVec.or_not_self, BitVec.and_allOnes]

/-- Settles O4: each word is the encoding of the operation that the vector names. -/
theorem wordsOfTheVectorsDecodeToTheirOperations : Obligations.WordsOfTheVectorsDecodeToTheirOperations := by
  and_intros
  all_goals exact decodeSel_of_encode_eq (by decide) (by decide)

/-- Settles O9: a presented word is the SEL of its state, and its table word is read as its two bytes. -/
theorem presentedWordIsTheNextOperation : Obligations.PresentedWordIsTheNextOperation := by
  intro s w
  obtain ⟨i, hi⟩ := Option.isSome_iff_exists.1 (decodeSel_isSome w)
  rw [Machine.State.withFetchWord, decodeTableWord, if_pos le_rfl, Machine.ofNat_toNat_mod, decodeBytes_selBytes hi, hi]
  exact ⟨Machine.sel_presentSel s w, Machine.presentSel_legal s w, rfl⟩

end Sys2Proof
end

section
/-!
PROOF. A step as the operation that SEL decodes to (spec/30_encoding.md R87), the transitions of ProtocolState (R88),
and that a state that meets the invariants always steps (spec/10_state.md R43).
-/
namespace Sys2Proof.Machine

/-! ### The operation of the cycle -/

/-- A step of a legal build performs the operation that SEL decodes to, then takes the edge. -/
theorem step_of_decodeSel {s : State} {i : Instr} (hl : s.cfg.legal = true) (hd : decodeSel (sel s) = some i) :
    step s = edge (exec i s) := by
  rw [decodeSel_sel] at hd
  rw [step_legal hl, exec_rowFor s 0, Option.some.inj hd]

/-- Every operation of the map has a meaning: none is refused. -/
theorem exec_ne_refused (i : Instr) (s : State) (r : Refusal) : exec i s ≠ .refused r := by
  cases i with
  | drainEmit | drainLast =>
    simp only [exec, execDrainEmit, execDrainLast]
    cases s.memRead s.didx.toNat <;> nofun
  | _ => nofun

/-- Settles O7: the edge after a meaning's answer, answer by answer. -/
theorem stepRunsTheSelectedOperation : Obligations.StepRunsTheSelectedOperation := by
  intro s i hl hd
  have hstep := step_of_decodeSel hl hd
  refine ⟨fun t ht => ?next, fun f hf => ?fault, exec_ne_refused i s⟩
  case next => rw [hstep, ht]; rfl
  case fault => rw [hstep, hf]; rfl

/-! ### The transitions of ProtocolState -/

/-- Outside Latching and without rst a byte that is offered is accepted (R23, R28). -/
theorem accIn_of_offered {s : State} (hr : s.port.rst = false) (hs : s.state ≠ .la) (hv : s.port.inValid = true) :
    accIn s = true := by
  rw [accIn, hv, (inReady_iff s).2 ⟨hr, hs⟩, Bool.and_true]

theorem accIn_of_not_offered {s : State} (hv : s.port.inValid = false) : accIn s = false := by
  rw [accIn, hv, Bool.false_and]

/-- Settles O46: the cases of a step that write state, each an edge of the table. -/
theorem stateMachineHasOnlyTheListedTransitions : Obligations.StateMachineHasOnlyTheListedTransitions := by
  intro s t h hr hne
  cases step_cases h with
  | reset hrst => exact absurd (hr.symm.trans hrst) Bool.false_ne_true
  | seekMatch _ hs hv hm => exact .inl ⟨hs, rfl, accIn_of_offered hr (by simp [hs]) hv, hm⟩
  | hdrChkOk _ hs hv hc hk ho =>
    exact .inr <| .inl ⟨hs, rfl, accIn_of_offered hr (by simp [hs]) hv, hc, hk, ho⟩
  | hdrChkBad _ hs hv hc hk =>
    exact .inr <| .inr <| .inl ⟨hs, rfl, accIn_of_offered hr (by simp [hs]) hv, hc, hk⟩
  | hdrOversize _ hs hv hc hk ho =>
    obtain ⟨hpol, -⟩ := (rejOver_iff s).1 ho
    exact .inr <| .inr <| .inr <| .inl
      ⟨hs, rfl, accIn_of_offered hr (by simp [hs]) hv, hc, hk, ho, by simp [hpol]⟩
  | hdrRsvd _ hs hv hc =>
    exact .inr <| .inr <| .inr <| .inr <| .inl ⟨hs, rfl, accIn_of_offered hr (by simp [hs]) hv, hc⟩
  | hdrTimeout _ hs hv hi | payTimeout _ hs hv hi =>
    obtain ⟨hT, -⟩ := (idleEnd_iff s).1 hi
    exact .inr <| .inr <| .inr <| .inr <| .inr <| .inl ⟨by simp [hs], rfl, accIn_of_not_offered hv, hi, hT⟩
  | payLast _ hs hv hl =>
    exact .inr <| .inr <| .inr <| .inr <| .inr <| .inr <| .inl
      ⟨hs, rfl, accIn_of_offered hr (by simp [hs]) hv, hl⟩
  | settleDone _ hs hp ht hl =>
    exact .inr <| .inr <| .inr <| .inr <| .inr <| .inr <| .inr ⟨hs, rfl, hp, ht, hl⟩
  | _ => exact absurd rfl hne

/-! ### Progress under the invariants -/

/-- From a state that meets the invariants a step answers a next state that meets them: the drain reads below P_C
(INV7). -/
theorem step_of_inv {s : State} (hI : Inv s) : ∃ t, step s = .next t ∧ Inv t := by
  obtain ⟨t, h⟩ := step_isNext hI.legal fun hs hp =>
    (hI.inv7.1 ⟨hs, hp⟩).trans_le (Nat.min_le_right _ _)
  exact ⟨t, h, stepCase_inv hI (step_cases h)⟩

/-- A run goes on from the state that its first step answers. -/
theorem run_succ {s t : State} (h : step s = .next t) (n : Nat) :
    Sys2Proof.core.run (n + 1) s = Sys2Proof.core.run n t := by
  have hcore : Sys2Proof.core.step s = .next t := h
  simp only [Host.Core.run, hcore]

/-- A run from a state that meets the invariants answers one that meets them. -/
theorem run_of_inv {s : State} (hI : Inv s) (n : Nat) : ∃ t : State, Sys2Proof.core.run n s = .next t ∧ Inv t := by
  induction n generalizing s with
  | zero => exact ⟨s, rfl, hI⟩
  | succ n ih =>
    obtain ⟨u, hstep, hu⟩ := step_of_inv hI
    obtain ⟨t, hrun, ht⟩ := ih hu
    exact ⟨t, (run_succ hstep n).trans hrun, ht⟩

/-- Settles O42: the invariants give a next state that meets them, so a run of any length does. -/
theorem invariantStatesAlwaysStep : Obligations.InvariantStatesAlwaysStep :=
  fun _ hI => ⟨step_of_inv hI, run_of_inv hI⟩

end Sys2Proof.Machine
end

section
/-!
SUPPORT. The operation that a cycle's SEL selects, as an equivalence (spec/30_encoding.md R87 to R90), and the step that
performs it.
-/
namespace Sys2Proof.Machine

/-- The row that a cycle's registers and ports name is one of the map. -/
theorem rowFor_mem (s : State) : rowFor s ∈ rows := List.mem_of_find?_eq_some (find_row s)

/-- The registers and ports under which an operation is selected name its row. -/
theorem rowFor_of_selectedIn {s : State} {i : Instr} (h : SelectedIn s i) : rowFor s = i.row := by
  cases i <;> simp_all [SelectedIn, rowFor, Instr.row]

/-- SEL decodes to an operation, with some unread bits, exactly when the registers and ports are those of its row. -/
theorem exists_decodeSel_iff_selectedIn (s : State) (i : Instr) :
    (∃ u, decodeSel s.fetchWord = some (i.row.make u)) ↔ SelectedIn s i := by
  rw [State.fetchWord, decodeSel_sel]
  constructor
  · rintro ⟨u, hu⟩
    have hrow : rowFor s = i.row := by
      rw [← (row_make _ (rowFor_mem s) _).1, Option.some.inj hu, (row_make _ i.row_mem u).1]
    rw [← i.make_unread, ← hrow]
    exact selectedIn_rowFor s _
  · intro h
    rw [rowFor_of_selectedIn h]
    exact ⟨_, rfl⟩

/-- A step of a legal build performs the selected operation, then takes the edge. -/
theorem step_of_selectedIn {s : State} {i : Instr} (hl : s.cfg.legal = true) (h : SelectedIn s i) :
    step s = edge (exec i s) := by
  rw [step_legal hl, exec_rowFor s 0 i.unread, rowFor_of_selectedIn h, i.make_unread]

end Sys2Proof.Machine
end

section
/-!
SUPPORT. Runs put together, and the state that a number of cycles without a write leaves.
-/
namespace Sys2Proof.Machine

/-- A run goes on from the state that an earlier run answers. -/
theorem run_add {s t : State} {m : Nat} (h : Sys2Proof.core.run m s = .next t) (n : Nat) :
    Sys2Proof.core.run (m + n) s = Sys2Proof.core.run n t := by
  induction m generalizing s with
  | zero =>
    cases h
    rw [Nat.zero_add]
  | succ m ih =>
    cases hstep : step s with
    | next u =>
      rw [run_succ hstep] at h
      rw [Nat.succ_add, run_succ hstep, ih h]
    | fault | refused =>
      have hcore : Sys2Proof.core.step s = _ := hstep
      simp [Host.Core.run, hcore] at h

/-- The state `n` clock edges later when no operation has written a register or recorded an event. -/
def State.later (s : State) (n : Nat) : State := { s with feed := s.feed.drop n, cycle := s.cycle + n }

@[simp] theorem State.later_zero (s : State) : s.later 0 = s := rfl
@[simp] theorem State.later_state (s : State) (n : Nat) : (s.later n).state = s.state := rfl
@[simp] theorem State.later_cfg (s : State) (n : Nat) : (s.later n).cfg = s.cfg := rfl
@[simp] theorem State.later_mw (s : State) (n : Nat) : (s.later n).mw = s.mw := rfl
@[simp] theorem State.later_mw_cnt (s : State) (n : Nat) : (s.later n).mw_cnt = s.mw_cnt := rfl

/-- The port levels move up by the edges taken. -/
theorem State.portAt_later (s : State) (n k : Nat) : (s.later n).portAt k = s.portAt (n + k) := by
  simp only [State.portAt, State.later, List.getElem?_drop, Nat.add_assoc]

theorem State.port_later (s : State) (n : Nat) : (s.later n).port = s.portAt n := s.portAt_later n 0

/-- One more edge without a write. -/
theorem State.endCycle_later (s : State) (n : Nat) : (s.later n).endCycle = s.later (n + 1) := by
  simp only [State.later, State.endCycle, List.tail_drop, Nat.add_assoc]

end Sys2Proof.Machine
end

section
/-!
PROOF. The synchronizer (spec/40_sync.md): its three operations, the window that is empty outside SeekingMagic, and
that a marker sent in one piece is never missed.
-/
namespace Sys2Proof.Machine

/-! ### The three operations -/

/-- With fewer than two valid bytes in the window no byte completes the marker (R34, R79). -/
theorem mmatch_eq_false_of_lt {s : State} (h : s.mw_cnt.toNat < 2) : mmatch s = false := by
  rw [Bool.eq_false_iff, ne_eq, mmatch_iff]
  exact fun ⟨htwo, _⟩ => absurd h htwo.not_gt

/-- Settles O12: the meaning is the identity, and its row is the one of SM without a byte offered. -/
theorem seekIdleWritesNothing : Obligations.SeekIdleWritesNothing := by
  intro s
  refine ⟨fun _ => rfl, (exists_decodeSel_iff_selectedIn s (.seekIdle 0)).trans ?selected, fun hr hs => ?ready⟩
  case selected => simp [SelectedIn]
  case ready => exact (inReady_iff s).2 ⟨hr, by simp [hs]⟩

/-- Settles O13: the meaning as one update, the row of a byte that does not complete the marker, and the need for two
bytes before it. -/
theorem seekShiftPushesTheByteIntoTheWindow : Obligations.SeekShiftPushesTheByteIntoTheWindow := by
  intro s
  refine ⟨fun _ => rfl, (exists_decodeSel_iff_selectedIn s (.seekShift 0)).trans ?selected, mmatch_eq_false_of_lt⟩
  case selected => simp [SelectedIn]

/-- Settles O14: the meaning as one update, and the row of the byte that completes the marker. -/
theorem seekMatchDiscardsTheWindowAndEntersHeader : Obligations.SeekMatchDiscardsTheWindowAndEntersHeader := by
  intro s
  refine ⟨fun _ => rfl, (exists_decodeSel_iff_selectedIn s (.seekMatch 0)).trans ?selected⟩
  case selected => simp [SelectedIn]

/-! ### The window outside SeekingMagic -/

/-- Settles O54: RESET clears the window, and every other operation outside SM leaves it as it is, empty (INV2). -/
theorem windowIsEmptyOnEveryReturnToSeeking : Obligations.WindowIsEmptyOnEveryReturnToSeeking := by
  intro s
  refine ⟨fun hI hs t h => ?window, mmatch_eq_false_of_lt⟩
  case window =>
    cases step_cases h with
    | reset => exact ⟨rfl, rfl⟩
    | seekIdle _ hsm | seekShift _ hsm | seekMatch _ hsm => exact absurd hsm hs
    | _ => exact hI.inv2 hs

/-! ### The window after bytes that do not complete the marker -/

@[simp] theorem slot0_shiftWindow (w : Window) (b : Byte) : slot0 (shiftWindow w b) = b := slotAt_shiftWindow_zero w b
@[simp] theorem slot1_shiftWindow (w : Window) (b : Byte) : slot1 (shiftWindow w b) = slot0 w :=
  slotAt_shiftWindow_one w b

/-- The state of a cycle whose byte is shifted into the window (R101). -/
def State.shiftByte (s : State) : State :=
  { s.accept.raise .syncLoss with mw := shiftWindow s.mw s.port.inData, mw_cnt := countByte s.mw_cnt }

theorem exec_seekShift (u : Sel) (s : State) : exec (.seekShift u) s = .next s.shiftByte := rfl

/-- The state after `n` cycles with no byte and one whose byte is shifted into the window (R100, R101). -/
def State.afterShift (s : State) (n : Nat) : State := (s.later n).shiftByte.endCycle

@[simp] theorem State.afterShift_state (s : State) (n : Nat) : (s.afterShift n).state = s.state := rfl
@[simp] theorem State.afterShift_cfg (s : State) (n : Nat) : (s.afterShift n).cfg = s.cfg := rfl
@[simp] theorem State.afterShift_mw_cnt (s : State) (n : Nat) : (s.afterShift n).mw_cnt = countByte s.mw_cnt := rfl
@[simp] theorem State.afterShift_mw (s : State) (n : Nat) :
    (s.afterShift n).mw = shiftWindow s.mw (s.portAt n).inData := by
  rw [← State.port_later]
  rfl

theorem State.portAt_afterShift (s : State) (n k : Nat) : (s.afterShift n).portAt k = s.portAt (n + 1 + k) := by
  rw [← State.portAt_later, ← State.endCycle_later]
  exact State.portAt_congr rfl rfl k

/-! ### The cycles of SeekingMagic -/

/-- The ports offer the next byte after `n` cycles with none, and rst is 0 up to it. -/
structure OffersAfter (s : State) (n : Nat) : Prop where
  rst : ∀ k, k ≤ n → (s.portAt k).rst = false
  inValid : ∀ k, k ≤ n → ((s.portAt k).inValid = true ↔ k = n)

/-- The offer seen from a state `t` whose ports carry the levels of `s` from the cycle `i` on. -/
theorem offersAfter_of_portAt {s t : State} {i n : Nat} (hp : ∀ k, t.portAt k = s.portAt (i + k))
    (hr : ∀ k, k ≤ n → (s.portAt (i + k)).rst = false)
    (hv : ∀ k, k ≤ n → ((s.portAt (i + k)).inValid = true ↔ k = n)) : OffersAfter t n where
  rst k hk := (congrArg PortIn.rst (hp k)).trans (hr k hk)
  inValid k hk := by rw [hp, hv k hk]

section
variable {s : State} (hl : s.cfg.legal = true) (hs : s.state = .sm)
include hl hs

/-- A block in SM waits unchanged while no byte is offered (R100). -/
theorem run_seekIdle {n : Nat} (hr : ∀ k, k < n → (s.portAt k).rst = false)
    (hv : ∀ k, k < n → (s.portAt k).inValid = false) : Sys2Proof.core.run n s = .next (s.later n) := by
  induction n with
  | zero => rfl
  | succ n ih =>
    have hrun := ih (fun k hk => hr k (by omega)) (fun k hk => hv k (by omega))
    have hsel : SelectedIn (s.later n) (.seekIdle 0) := by
      simp [SelectedIn, State.port_later, hs, hr n (by omega), hv n (by omega)]
    have hstep : step (s.later n) = .next (s.later (n + 1)) := by
      rw [step_of_selectedIn (by simpa using hl) hsel, ← State.endCycle_later]
      rfl
    rw [run_add hrun 1, run_succ hstep]
    rfl

variable {n : Nat} (ho : OffersAfter s n)
include ho

/-- The cycles before the byte that is offered are idle ones. -/
theorem run_until_offered : Sys2Proof.core.run n s = .next (s.later n) :=
  run_seekIdle hl hs (fun k hk => ho.rst k hk.le)
    fun k hk => Bool.eq_false_iff.2 fun hv => hk.ne ((ho.inValid k hk.le).1 hv)

/-- The byte that completes the marker takes the block to ReadingHeader (R102). -/
theorem run_to_match (hm : mmatch (s.later n) = true) :
    ∃ t : State, Sys2Proof.core.run (n + 1) s = .next t ∧ t.state = .rh := by
  have hsel : SelectedIn (s.later n) (.seekMatch 0) := by
    simp [SelectedIn, State.port_later, hs, ho.rst n le_rfl, (ho.inValid n le_rfl).2 rfl, hm]
  have hstep := step_of_selectedIn (by simpa using hl) hsel
  exact ⟨_, (run_add (run_until_offered hl hs ho) 1).trans (run_succ hstep 0), rfl⟩

/-- The byte that does not complete the marker is shifted into the window (R101). -/
theorem run_to_shift (hm : mmatch (s.later n) = false) :
    Sys2Proof.core.run (n + 1) s = .next (s.afterShift n) := by
  have hsel : SelectedIn (s.later n) (.seekShift 0) := by
    simp [SelectedIn, State.port_later, hs, ho.rst n le_rfl, (ho.inValid n le_rfl).2 rfl, hm]
  have hstep : step (s.later n) = .next (s.afterShift n) := by
    rw [step_of_selectedIn (by simpa using hl) hsel, exec_seekShift]
    rfl
  rw [run_add (run_until_offered hl hs ho) 1, run_succ hstep]
  rfl

end

/-! ### The marker is never missed -/

/-- From `s` the block is in ReadingHeader after at most `n` cycles. -/
def ReachesHeaderWithin (s : State) (n : Nat) : Prop :=
  ∃ (k : Nat) (t : State), k ≤ n ∧ Sys2Proof.core.run k s = .next t ∧ t.state = .rh

section
variable {s : State} {n : Nat} (hl : s.cfg.legal = true) (hs : s.state = .sm) (ho : OffersAfter s n)
include hl hs ho

/-- The byte that completes the marker does so in its own cycle. -/
theorem reachesHeaderWithin_of_match (hm : mmatch (s.later n) = true) : ReachesHeaderWithin s (n + 1) := by
  obtain ⟨t, hrun, ht⟩ := run_to_match hl hs ho hm
  exact ⟨n + 1, t, le_rfl, hrun, ht⟩

/-- A byte either completes the marker or is shifted into the window: the header is reached within the bound if it is
from the shifted window. -/
theorem reachesHeaderWithin_of_afterShift {m : Nat} (h : ReachesHeaderWithin (s.afterShift n) m) :
    ReachesHeaderWithin s (n + 1 + m) := by
  cases hm : mmatch (s.later n) with
  | true =>
    obtain ⟨t, hrun, ht⟩ := run_to_match hl hs ho hm
    exact ⟨n + 1, t, Nat.le_add_right _ _, hrun, ht⟩
  | false =>
    obtain ⟨k, t, hk, hrun, ht⟩ := h
    exact ⟨n + 1 + k, t, Nat.add_le_add_left hk _, (run_add (run_to_shift hl hs ho hm) k).trans hrun, ht⟩

end

/-- Once the first two marker bytes have been shifted in, the third completes the marker. -/
theorem mmatch_after_two_shifts {s : State} {a b c : Nat} (h0 : (s.portAt a).inData = s.cfg.P_M0)
    (h1 : ((s.afterShift a).portAt b).inData = s.cfg.P_M1)
    (h2 : (((s.afterShift a).afterShift b).portAt c).inData = s.cfg.P_M2) :
    mmatch (((s.afterShift a).afterShift b).later c) = true := by
  rw [mmatch_iff, State.port_later]
  refine ⟨?count, ?first, ?second, h2⟩
  case count =>
    simp only [State.later_mw_cnt, State.afterShift_mw_cnt, countByte_toNat]
    omega
  case first => simp [h0]
  case second => simp [h1]

/-- Settles O55: each of the first two bytes ends the search or stands in the window when the third completes it. -/
theorem markerIsNeverMissed : Obligations.MarkerIsNeverMissed := by
  intro s a b hl hs hr hv h0 h1 h2
  have hp1 (k : Nat) : (s.afterShift 0).portAt k = s.portAt (1 + k) := s.portAt_afterShift 0 k
  have hp2 (k : Nat) : ((s.afterShift 0).afterShift a).portAt k = s.portAt (a + 2 + k) := by
    rw [State.portAt_afterShift, hp1]
    congr 1
    omega
  have ho0 : OffersAfter s 0 :=
    ⟨fun k hk => hr k (by omega), fun k hk => (hv k (by omega)).trans (by omega)⟩
  have ho1 : OffersAfter (s.afterShift 0) a := offersAfter_of_portAt hp1
    (fun k hk => hr _ (by omega)) fun k hk => (hv _ (by omega)).trans (by omega)
  have ho2 : OffersAfter ((s.afterShift 0).afterShift a) b := offersAfter_of_portAt hp2
    (fun k hk => hr _ (by omega)) fun k hk => (hv _ (by omega)).trans (by omega)
  have hm : mmatch (((s.afterShift 0).afterShift a).later b) = true :=
    mmatch_after_two_shifts h0 (by rw [hp1, Nat.add_comm, h1]) (by rw [hp2, Nat.add_right_comm, h2])
  have hreach2 := reachesHeaderWithin_of_match (by simpa using hl) (by simpa using hs) ho2 hm
  have hreach1 := reachesHeaderWithin_of_afterShift (by simpa using hl) (by simpa using hs) ho1 hreach2
  obtain ⟨k, t, hk, hrun, ht⟩ := reachesHeaderWithin_of_afterShift hl hs ho0 hreach1
  exact ⟨k, t, by omega, hrun, ht⟩

end Sys2Proof.Machine
end

section
/-!
PROOF. The stalled-transport timeout (spec/60_exceptions.md R174): a cycle of ReadingHeader or ReadingPayload without a
byte, the idle cycles counted one after another (R110, R130), and the cycle that ends the timeout (R117, R131).
-/
namespace Sys2Proof.Machine

/-! ### One cycle without a byte -/

section
variable {s : State} (hl : s.cfg.legal = true) (hs : s.state = .rh ∨ s.state = .rp)
  (hr : s.port.rst = false) (hv : s.port.inValid = false)
include hl hs hr hv

/-- A cycle of ReadingHeader or ReadingPayload without a byte and before the end of the timeout counts as idle
(R110, R130). -/
theorem step_idle (hend : idleEnd s = false) : step s = .next s.countIdle.endCycle := by
  rcases hs with hs | hs
  · exact step_of_selectedIn (i := .hdrWait 0) hl (by simp [SelectedIn, hr, hs, hv, hend])
  · exact step_of_selectedIn (i := .payWait 0) hl (by simp [SelectedIn, hr, hs, hv, hend])

/-- What the idle cycle that ends the timeout leaves, in ReadingHeader and in ReadingPayload (R117, R131, R174). -/
theorem step_idleEnd (hend : idleEnd s = true) :
    ∃ t, step s = .next t ∧ t.state = .sm ∧ t.raised = (s.cycle, .stalledTransport) :: s.raised ∧
      t.accepted = s.accepted ∧ t.emitted = s.emitted ∧ t.buf = s.buf := by
  rcases hs with hs | hs
  · have hsel : SelectedIn s (.hdrTimeout 0) := by simp [SelectedIn, hr, hs, hv, hend]
    exact ⟨_, step_of_selectedIn hl hsel, rfl, rfl, rfl, rfl, rfl⟩
  · have hsel : SelectedIn s (.payTimeout 0) := by simp [SelectedIn, hr, hs, hv, hend]
    exact ⟨_, step_of_selectedIn hl hsel, rfl, rfl, rfl, rfl, rfl⟩

end

/-! ### Cycles counted one after another -/

/-- The state `n` clock edges later when each of the cycles has been counted as idle. -/
def State.idleFor (s : State) (n : Nat) : State := { s.later n with idle_cnt := s.idle_cnt + n }

@[simp] theorem State.idleFor_state (s : State) (n : Nat) : (s.idleFor n).state = s.state := rfl
@[simp] theorem State.idleFor_cfg (s : State) (n : Nat) : (s.idleFor n).cfg = s.cfg := rfl
@[simp] theorem State.idleFor_idle_cnt (s : State) (n : Nat) : (s.idleFor n).idle_cnt = s.idle_cnt + n := rfl

theorem State.port_idleFor (s : State) (n : Nat) : (s.idleFor n).port = s.portAt n :=
  (State.port_congr rfl rfl).trans (s.port_later n)

/-- The timeout ends in the cycle that makes the idle cycles as many as it allows (R86). -/
theorem idleEnd_idleFor {s : State} (hT : s.cfg.P_IDLE_TIMEOUT ≠ 0) (n : Nat) :
    idleEnd (s.idleFor n) = true ↔ s.idle_cnt + n + 1 = s.cfg.P_IDLE_TIMEOUT :=
  (idleEnd_iff _).trans (and_iff_right hT)

/-- One more idle cycle below the timeout, which the idle counter counts without wrapping (R15). -/
theorem State.countIdle_idleFor {s : State} {n : Nat} (h : s.idle_cnt + n + 1 < s.cfg.P_IDLE_TIMEOUT) :
    (s.idleFor n).countIdle.endCycle = s.idleFor (n + 1) := by
  have hT : (s.idleFor n).cfg.P_IDLE_TIMEOUT ≠ 0 := Nat.ne_zero_of_lt h
  rw [countIdle_eq, if_pos hT, State.idleFor_idle_cnt, State.idleFor_cfg, idle_countUp h]
  simp only [State.idleFor, State.later, State.endCycle, List.tail_drop, Nat.add_assoc]

/-- Cycles without a byte are counted as long as the timeout has not ended (R110, R130). -/
theorem run_idle {s : State} {n : Nat} (hl : s.cfg.legal = true) (hs : s.state = .rh ∨ s.state = .rp)
    (hlt : s.idle_cnt + n < s.cfg.P_IDLE_TIMEOUT)
    (hq : ∀ k, k < n → (s.portAt k).rst = false ∧ (s.portAt k).inValid = false) :
    Sys2Proof.core.run n s = .next (s.idleFor n) := by
  induction n with
  | zero => rfl
  | succ n ih =>
    obtain ⟨hr, hv⟩ := hq n (by omega)
    rw [← State.port_idleFor] at hr hv
    have hend : idleEnd (s.idleFor n) = false := by
      rw [Bool.eq_false_iff, ne_eq, idleEnd_idleFor (by omega)]
      omega
    have hstep := step_idle (by simpa using hl) (by simpa using hs) hr hv hend
    rw [State.countIdle_idleFor hlt] at hstep
    rw [run_add (ih (by omega) fun k hk => hq k (by omega)) 1, run_succ hstep]
    rfl

/-- Settles O59: the cycles before the last are counted, and the last one ends the timeout. -/
theorem idleTimeoutFiresInItsCycleExactly : Obligations.IdleTimeoutFiresInItsCycleExactly := by
  intro s hI hs hcnt hT hq
  have hrun (k : Nat) (hk : k < s.cfg.P_IDLE_TIMEOUT) : Sys2Proof.core.run k s = .next (s.idleFor k) :=
    run_idle hI.legal hs (by omega) fun j hj => hq j (by omega)
  refine ⟨fun k hk => ⟨s.idleFor k, hrun k hk, rfl⟩, ?timeout⟩
  case timeout =>
    obtain ⟨n, hn⟩ := Nat.exists_eq_succ_of_ne_zero hT
    obtain ⟨hr, hv⟩ := hq n (by omega)
    rw [← State.port_idleFor] at hr hv
    have hend : idleEnd (s.idleFor n) = true := (idleEnd_idleFor hT n).2 (by omega)
    obtain ⟨t, hstep, ht⟩ := step_idleEnd (by simpa using hI.legal) (by simpa using hs) hr hv hend
    rw [hn]
    exact ⟨t, (run_add (hrun n (by omega)) 1).trans (run_succ hstep 0), ht⟩

end Sys2Proof.Machine
end

section
/-!
PROOF. The FrameHeaderDecoder's eight operations (spec/41_header.md R110 to R117): what each writes, and the registers
and ports that select it.
-/
namespace Sys2Proof.Machine

/-- Settles O15: one idle cycle counted, selected before the end of the timeout, which a block without one never meets. -/
theorem hdrWaitCountsTheIdleCycle : Obligations.HdrWaitCountsTheIdleCycle := by
  intro s
  refine ⟨fun _ => ?exec, (exists_decodeSel_iff_selectedIn s (.hdrWait 0)).trans ?selected, fun hT => ?never⟩
  case exec =>
    have hexec (u : Sel) : exec (.hdrWait u) s = .next s.countIdle := rfl
    rw [hexec, countIdle_eq, ite_not]
    rfl
  case selected => simp [SelectedIn]
  case never => simp [idleEnd, hT]

/-- Settles O16: the meaning as one update, and the row of a byte offered at hdr_cnt = 0. -/
theorem hdrHiTakesTheFirstHeaderByte : Obligations.HdrHiTakesTheFirstHeaderByte := by
  intro s
  refine ⟨fun _ => rfl, (exists_decodeSel_iff_selectedIn s (.hdrHi 0)).trans ?selected⟩
  case selected => simp [SelectedIn, and_comm]

/-- Settles O17: the meaning as one update, and the row of a byte offered at hdr_cnt = 1. -/
theorem hdrLoTakesTheSecondHeaderByte : Obligations.HdrLoTakesTheSecondHeaderByte := by
  intro s
  refine ⟨fun _ => rfl, (exists_decodeSel_iff_selectedIn s (.hdrLo 0)).trans ?selected⟩
  case selected => simp [SelectedIn, and_comm]

/-- The length of a payload as the word of its natural number (R74). -/
theorem payloadLength_eq_ofNat (hi lo : Byte) :
    payloadLength hi lo = BitVec.ofNat 18 (3 * (256 * hi.toNat + lo.toNat + 1)) := by
  rw [← payloadLength_toNat, BitVec.ofNat_toNat, BitVec.setWidth_eq]

/-- Settles O18: the meaning with the length as a natural number, and the row of a valid checksum whose length fits. -/
theorem hdrChkOkDerivesTheLengthAndEntersPayload : Obligations.HdrChkOkDerivesTheLengthAndEntersPayload := by
  intro s
  refine ⟨fun _ => ?exec, (exists_decodeSel_iff_selectedIn s (.hdrChkOk 0)).trans ?selected⟩
  case exec =>
    rw [← payloadLength_eq_ofNat]
    rfl
  case selected => simp [SelectedIn, and_left_comm]

/-- Settles O19: the recovery as one update, and the row of a wrong checksum, which does not read rej_over. -/
theorem hdrChkBadDiscardsTheHeader : Obligations.HdrChkBadDiscardsTheHeader := by
  intro s
  refine ⟨fun _ => rfl, (exists_decodeSel_iff_selectedIn s (.hdrChkBad 0)).trans ?selected⟩
  case selected => simp [SelectedIn, and_left_comm]

/-- Settles O20: the recovery as one update, and the row of a valid checksum over a length that REJECT refuses. -/
theorem hdrOversizeRejectsTheFrame : Obligations.HdrOversizeRejectsTheFrame := by
  intro s
  refine ⟨fun _ => rfl, (exists_decodeSel_iff_selectedIn s (.hdrOversize 0)).trans ?selected, fun ho => ?policy⟩
  case selected => simp [SelectedIn, and_left_comm]
  case policy =>
    obtain ⟨hpol, -⟩ := (rejOver_iff s).1 ho
    exact hpol

/-- The one count left when it is none of the other three. -/
theorem hdr_cnt_eq_three_iff (n : BitVec 2) : n = 3 ↔ n ≠ 0 ∧ n ≠ 1 ∧ n ≠ 2 := by
  revert n
  decide

/-- Settles O21: the recovery as one update, and the row of the one count that INV3 excludes. -/
theorem hdrRsvdRecoversFromTheUnusedCount : Obligations.HdrRsvdRecoversFromTheUnusedCount := by
  intro s
  have hsel : (∃ u, decodeSel s.fetchWord = some (.hdrRsvd u)) ↔
      s.port.rst = false ∧ s.state = .rh ∧ s.hdr_cnt = 3 ∧ s.port.inValid = true := by
    refine (exists_decodeSel_iff_selectedIn s (.hdrRsvd 0)).trans ?_
    rw [hdr_cnt_eq_three_iff]
    simp [SelectedIn, and_comm]
  refine ⟨fun _ => rfl, hsel, fun hI h => ?unreachable⟩
  case unreachable =>
    obtain ⟨-, -, hcnt, -⟩ := hsel.1 h
    obtain ⟨hle, -⟩ := hI.inv3
    rw [hcnt] at hle
    exact absurd hle (by decide)

/-- Settles O22: the recovery as one update, and the row of the cycle without a byte that ends the timeout. -/
theorem hdrTimeoutReturnsToSeeking : Obligations.HdrTimeoutReturnsToSeeking := by
  intro s
  refine ⟨fun _ => rfl, (exists_decodeSel_iff_selectedIn s (.hdrTimeout 0)).trans ?selected, fun hend => ?enabled⟩
  case selected => simp [SelectedIn]
  case enabled =>
    obtain ⟨hT, -⟩ := (idleEnd_iff s).1 hend
    exact hT

end Sys2Proof.Machine
end

section
/-!
PROOF. The header's checksum (spec/41_header.md R119): which changes of the three header bytes it detects.
-/
namespace Sys2Proof.Machine

section
variable (c : Params) (hi lo d : Byte)

/-- A change of the high byte changes the valid checksum in the same bits (R77). -/
theorem checksum_xor_hi : checksum c (hi ^^^ d) lo = checksum c hi lo ^^^ d := by
  simp only [checksum, BitVec.xor_assoc, BitVec.xor_comm d]

/-- So does a change of the low byte. -/
theorem checksum_xor_lo : checksum c hi (lo ^^^ d) = checksum c hi lo ^^^ d := by
  simp only [checksum, BitVec.xor_assoc, BitVec.xor_comm d]

/-- The checksum does not tell the two header bytes apart. -/
theorem checksum_comm : checksum c lo hi = checksum c hi lo := by
  rw [checksum, checksum, BitVec.xor_comm lo]

end

/-- Exactly equal bytes may change places in a pixel count (R73). -/
theorem pixelCount_comm_iff (hi lo : Byte) : pixelCount hi lo = pixelCount lo hi ↔ hi = lo := by
  rw [pixelCount, pixelCount, append_eq_append_iff]
  exact ⟨And.left, fun h => ⟨h, h.symm⟩⟩

/-- A bit of a byte, as a word, is not zero. -/
theorem twoPow_ne_zero {k : Nat} (h : k < 8) : BitVec.twoPow 8 k ≠ 0 := by
  intro h0
  have hpow : (0 : Byte).toNat = 2 ^ k := h0 ▸ BitVec.toNat_twoPow_of_lt h
  exact (Nat.two_pow_pos k).ne hpow

/-- A word changed in a bit is another word. -/
theorem xor_ne_self {d : Byte} (h : d ≠ 0) (x : Byte) : x ^^^ d ≠ x := fun hx =>
  h ((BitVec.xor_right_inj x).1 (hx.trans BitVec.xor_zero.symm))

/-- Settles O56: a flip in a header byte flips that bit of the valid checksum, so one flip is seen and two cancel. -/
theorem checksumDetectsSingleBitErrorsButNotEqualFlips :
    Obligations.ChecksumDetectsSingleBitErrorsButNotEqualFlips := by
  intro c hi lo x k hk
  have hd := twoPow_ne_zero hk
  generalize BitVec.twoPow 8 k = d at hd ⊢
  have hne := xor_ne_self hd x
  refine ⟨Iff.rfl, fun hx => ?flips, pixelCount_comm_iff hi lo⟩
  case flips =>
    rw [checksum_comm c hi lo, checksum_xor_hi, checksum_xor_hi, checksum_xor_lo, ← hx, xor_cancel_right]
    exact ⟨hne.symm, hne.symm, hne, rfl, rfl, rfl, rfl⟩

end Sys2Proof.Machine
end

section
/-!
PROOF. The PayloadAccumulator's four operations (spec/42_payload.md R130 to R133): what each writes, and the registers
and ports that select it; and that the bytes emitted during a drain are the payload bytes accepted (R135).
-/
namespace Sys2Proof.Machine

/-! ### The bytes of a drain -/

/-- In the settle the bytes emitted in the drain before it are the payload bytes, both being what the buffer holds
(R54, INV10). -/
theorem Inv.emittedByte_eq_payloadByte {t : State} (hI : Inv t) (hp : t.lphase = .settle) {i : Nat} (hi : i < t.dlen) :
    (t.emittedByte t.dlen i).isSome = true ∧ t.emittedByte t.dlen i = t.payloadByte i := by
  have hs := hI.inv1 hp
  have hdrained : t.drained = t.dlen := if_pos ⟨hs, hp⟩
  obtain ⟨hsome, hem⟩ := hI.emittedHeld i (hdrained ▸ hi)
  obtain ⟨-, hpay⟩ := hI.inv10 i (by rwa [hI.inv6 hs])
  rw [hdrained] at hem
  rw [hem, hpay]
  exact ⟨hsome, rfl⟩

/-- Only DRAIN_LAST goes from the drain to the settle, and it leaves the payload as it is (R143). -/
theorem step_drain_to_settle {s t : State} (h : step s = .next t) (hp : s.lphase = .drain) (ht : t.lphase = .settle) :
    s.state = .la ∧ t.dlen = s.dlen ∧ t.payloadByte = s.payloadByte := by
  cases step_cases h with
  | drainLast _ hs => exact ⟨hs, rfl, rfl⟩
  | reset | payLast | settleDone => cases ht
  | _ => cases hp.symm.trans ht

/-- Settles O53: the step keeps the invariants, which say of the settle that the bytes emitted are the payload. -/
theorem transmittedBytesEqualReceivedBytes : Obligations.TransmittedBytesEqualReceivedBytes := by
  intro s t hI hp h ht
  obtain ⟨hs, hdlen, hpay⟩ := step_drain_to_settle h hp ht
  have hIt : Inv t := stepCase_inv hI (step_cases h)
  refine ⟨fun i hi => ?bytes, fun hpol => ?reject⟩
  case bytes =>
    rw [← hdlen] at hi ⊢
    rw [← hpay]
    exact hIt.emittedByte_eq_payloadByte ht hi
  case reject =>
    obtain ⟨-, -, -, hfit⟩ := hI.inv5.2 (.inr hs)
    exact Nat.min_eq_left (hfit hpol)

/-! ### The cycles without a byte -/

/-- Settles O23: PAY_WAIT has the meaning of HDR_WAIT, in the row of ReadingPayload instead of ReadingHeader. -/
theorem payWaitCountsTheIdleCycle : Obligations.PayWaitCountsTheIdleCycle := by
  intro s
  obtain ⟨hexec, -, hnever⟩ := hdrWaitCountsTheIdleCycle s
  refine ⟨?exec, (exists_decodeSel_iff_selectedIn s (.payWait 0)).trans ?selected, hnever⟩
  case exec => exact hexec
  case selected => simp [SelectedIn]

/-- Settles O24: the recovery as one update, and the row of the cycle without a byte that ends the timeout. -/
theorem payTimeoutDropsThePartialPayload : Obligations.PayTimeoutDropsThePartialPayload := by
  intro s
  refine ⟨fun _ => rfl, (exists_decodeSel_iff_selectedIn s (.payTimeout 0)).trans ?selected⟩
  case selected => simp [SelectedIn]

/-! ### The cycles with a byte -/

/-- Storing a payload byte writes it at the cursor if that is an index of the buffer, and no other index (R51). -/
theorem read_storePayload (s : State) :
    (s.cursor.toNat < s.cfg.P_C → Memory.read s.storePayload.buf s.cursor.toNat = some s.port.inData) ∧
    ∀ a, (s.cursor.toNat < s.cfg.P_C → a ≠ s.cursor.toNat) →
      Memory.read s.storePayload.buf a = Memory.read s.buf a := by
  rw [State.storePayload_buf]
  by_cases hroom : s.cursor.toNat < s.cfg.P_C
  · rw [if_pos hroom]
    exact ⟨fun _ => Memory.read_write_same _ _ _, fun a ha => Memory.read_write_ne _ _ _ _ (ha hroom)⟩
  · rw [if_neg hroom]
    exact ⟨fun h => absurd h hroom, fun _ _ => rfl⟩

/-- Settles O25: the byte accepted and stored in one update, and the row of a byte that is not the last. -/
theorem payStoreWritesTheByteAtTheCursor : Obligations.PayStoreWritesTheByteAtTheCursor := by
  intro s
  refine ⟨fun _ => ⟨_, rfl, ?frame, read_storePayload s.accept⟩,
    (exists_decodeSel_iff_selectedIn s (.payStore 0)).trans ?selected⟩
  case frame => rw [accept_storePayload_eq]
  case selected => simp [SelectedIn]

/-- The last payload byte is the one that takes the cursor to the length, which its register holds (R82). -/
theorem cursor_add_one_of_payLast {s : State} (h : payLast s = true) : s.cursor + 1 = s.plen := by
  have heq : s.cursor.toNat + 1 = s.plen.toNat := eq_of_beq h
  exact BitVec.eq_of_toNat_eq ((len_toNat_add_one (Nat.lt_of_succ_le heq.le)).trans heq)

/-- Settles O26: the byte accepted and stored in one update, and the row of the byte that is the last. -/
theorem payLastWritesTheLastByteAndEntersLatching : Obligations.PayLastWritesTheLastByteAndEntersLatching := by
  intro s
  refine ⟨fun _ => ⟨_, rfl, ?frame, read_storePayload s.accept⟩,
    (exists_decodeSel_iff_selectedIn s (.payLast 0)).trans ?selected, cursor_add_one_of_payLast⟩
  case frame => rw [accept_storePayload_eq]
  case selected => simp [SelectedIn]

end Sys2Proof.Machine
end

section
/-!
PROOF. The TransmitLatchController's six operations (spec/43_latch.md R141 to R146): what each writes, and the registers
and ports that select it; and what Latching accepts, emits and offers (R148 to R150).
-/
namespace Sys2Proof.Machine

/-! ### The ports in Latching -/

theorem inReady_of_la {s : State} (hs : s.state = .la) : inReady s = false := by simp [inReady, hs]

theorem outValid_of_settle {s : State} (hp : s.lphase = .settle) : outValid s = false := by simp [outValid, hp]

/-- Settles O49: neither handshake holds, and of the transitions only the settle's end leaves Latching. -/
theorem latchingAcceptsNothingAndSettlingEmitsNothing :
    Obligations.LatchingAcceptsNothingAndSettlingEmitsNothing := by
  intro s t hs h
  obtain ⟨hacc, -, hsilent, -⟩ := eventsAreExactlyTheHandshakes s t h
  have hready := inReady_of_la hs
  refine ⟨hready, ?accepted, fun hp => ?settle, fun hne => ?leaves⟩
  case accepted => simpa [accIn, hready] using hacc
  case settle =>
    have hv := outValid_of_settle hp
    exact ⟨hv, hsilent (by rw [accOut, hv, Bool.false_and])⟩
  case leaves =>
    refine or_iff_not_imp_left.2 fun hr => ?_
    have htrans := stateMachineHasOnlyTheListedTransitions s t h (Bool.eq_false_iff.2 hr) (hs ▸ hne)
    simp only [hs, reduceCtorEq, false_and, or_self, false_or, true_and] at htrans
    exact htrans.2

/-! ### The drain -/

/-- Settles O27: the meaning is the identity, and the outputs are those of the drain. -/
theorem drainWaitHoldsTheByte : Obligations.DrainWaitHoldsTheByte := by
  intro s
  refine ⟨fun _ => rfl, (exists_decodeSel_iff_selectedIn s (.drainWait 0)).trans ?selected,
    fun hr hs hp hd => ?outputs⟩
  case selected => simp [SelectedIn]
  case outputs =>
    have hv := (outValid_iff s).2 ⟨hr, hs, hp⟩
    exact ⟨inReady_of_la hs, hv, (outData_of_outValid hv).trans (State.memRead_of_lt hd)⟩

/-- A cycle of the drain whose sink is not ready only takes the edge (R141). -/
theorem step_drainWait {s : State} (hl : s.cfg.legal = true) (hv : outValid s = true)
    (ho : s.port.outReady = false) : step s = .next s.endCycle := by
  obtain ⟨hr, hs, hp⟩ := (outValid_iff s).1 hv
  exact step_of_selectedIn (i := .drainWait 0) hl (by simp [SelectedIn, hr, hs, hp, ho])

/-- Settles O50: DRAIN_WAIT keeps the registers and the buffer that the outputs read. -/
theorem offeredByteIsHeldUntilTheSinkTakesIt : Obligations.OfferedByteIsHeldUntilTheSinkTakesIt := by
  intro s t hv ho h hr
  obtain ⟨-, hs, hp⟩ := (outValid_iff s).1 hv
  obtain ⟨hl, -⟩ := step_next h
  obtain rfl : s.endCycle = t := Host.Outcome.next.inj ((step_drainWait hl hv ho).symm.trans h)
  have hv' : outValid s.endCycle = true := (outValid_iff _).2 ⟨hr, hs, hp⟩
  refine ⟨hv', ?data, rfl⟩
  case data =>
    rw [outData_of_outValid hv', outData_of_outValid hv]
    rfl

/-- The state that DRAIN_EMIT leaves (R142). -/
def State.emitNext (s : State) : State := { s.emit (s.bufAt s.didx.toNat) with didx := s.didx + 1 }

/-- The state that DRAIN_LAST leaves (R143). -/
def State.emitLast (s : State) : State :=
  { s.emit (s.bufAt s.didx.toNat) with didx := 0, lphase := .settle, tick_cnt := 0, latch_cnt := 0 }

theorem exec_drainEmit {s : State} (hd : s.didx.toNat < s.cfg.P_C) (u : Sel) :
    exec (.drainEmit u) s = .next s.emitNext := by
  rw [exec, execDrainEmit, State.memRead_of_lt hd]
  rfl

theorem exec_drainLast {s : State} (hd : s.didx.toNat < s.cfg.P_C) (u : Sel) :
    exec (.drainLast u) s = .next s.emitLast := by
  rw [exec, execDrainLast, State.memRead_of_lt hd]
  rfl

/-- Settles O28: the byte read below P_C and emitted in one update, and the row of a byte that is not the last. -/
theorem drainEmitSendsTheByteAtTheIndex : Obligations.DrainEmitSendsTheByteAtTheIndex := by
  intro s
  refine ⟨exec_drainEmit, (exists_decodeSel_iff_selectedIn s (.drainEmit 0)).trans ?selected⟩
  case selected => simp [SelectedIn]

/-- Settles O29: the byte read below P_C and emitted in one update, and the row of the byte that is the last. -/
theorem drainLastSendsTheByteAndStartsTheSettle : Obligations.DrainLastSendsTheByteAndStartsTheSettle := by
  intro s
  refine ⟨exec_drainLast, (exists_decodeSel_iff_selectedIn s (.drainLast 0)).trans ?selected, fun hfull => ?capacity⟩
  case selected => simp [SelectedIn]
  case capacity => rw [drainLast_iff, hfull, Nat.min_self]

/-! ### The settle -/

theorem tickEnd_iff (s : State) : tickEnd s = true ↔ s.tick_cnt + 1 = s.cfg.P_TICK_CYCLES := beq_iff_eq

theorem latchEnd_iff (s : State) : latchEnd s = true ↔ s.latch_cnt + 1 = s.cfg.P_LATCH_TICKS := beq_iff_eq

/-- Settles O30: the prescaler counted up, and a tick of one cycle, in which every cycle is the last (INV8). -/
theorem settleCycleCountsTheCycle : Obligations.SettleCycleCountsTheCycle := by
  intro s
  have hsel : (∃ u, decodeSel s.fetchWord = some (.settleCycle u)) ↔
      s.port.rst = false ∧ s.state = .la ∧ s.lphase = .settle ∧ tickEnd s = false := by
    refine (exists_decodeSel_iff_selectedIn s (.settleCycle 0)).trans ?_
    simp [SelectedIn]
  refine ⟨fun _ => rfl, hsel, fun hI hone h => ?never⟩
  case never =>
    obtain ⟨-, hs, hp, hend⟩ := hsel.1 h
    obtain ⟨hlt, -⟩ := hI.inv8.1 ⟨hs, hp⟩
    exact Bool.eq_false_iff.1 hend ((tickEnd_iff s).2 (by omega))

/-- Settles O31: the latch counter counted up, and a settle of one tick, in which every tick is the last (INV8). -/
theorem settleTickCountsTheTick : Obligations.SettleTickCountsTheTick := by
  intro s
  have hsel : (∃ u, decodeSel s.fetchWord = some (.settleTick u)) ↔
      s.port.rst = false ∧ s.state = .la ∧ s.lphase = .settle ∧ tickEnd s = true ∧ latchEnd s = false := by
    refine (exists_decodeSel_iff_selectedIn s (.settleTick 0)).trans ?_
    simp [SelectedIn]
  refine ⟨fun _ => rfl, hsel, fun hI hone h => ?never⟩
  case never =>
    obtain ⟨-, hs, hp, -, hend⟩ := hsel.1 h
    obtain ⟨-, hlt⟩ := hI.inv8.1 ⟨hs, hp⟩
    exact Bool.eq_false_iff.1 hend ((latchEnd_iff s).2 (by omega))

/-- Settles O32: the counters cleared in one update, with the window already empty (INV2). -/
theorem settleDoneRearmsTheSynchronizer : Obligations.SettleDoneRearmsTheSynchronizer := by
  intro s
  refine ⟨fun _ => rfl, (exists_decodeSel_iff_selectedIn s (.settleDone 0)).trans ?selected,
    fun hs => ⟨inReady_of_la hs, fun hI => ?window⟩⟩
  case selected => simp [SelectedIn]
  case window => exact (hI.inv2 (by simp [hs])).symm

end Sys2Proof.Machine
end

section
/-!
PROOF. The settle lasts exactly P_LATCH_TICKS × P_TICK_CYCLES cycles (spec/43_latch.md R147): after `n` of them the
prescaler holds `n` modulo the tick's length, and the latch counter the quotient.
-/
namespace Sys2Proof.Machine

/-! ### One cycle of the settle -/

section
variable {s : State} (hl : s.cfg.legal = true) (hs : s.state = .la) (hp : s.lphase = .settle) (hr : s.port.rst = false)
include hl hs hp hr

/-- Before the end of a tick the prescaler counts the cycle without wrapping (R144, R15). -/
theorem step_settleCycle (hlt : s.tick_cnt + 1 < s.cfg.P_TICK_CYCLES) :
    step s = .next { s with tick_cnt := s.tick_cnt + 1 }.endCycle := by
  have hend : tickEnd s = false := by
    rw [Bool.eq_false_iff, ne_eq, tickEnd_iff]
    exact hlt.ne
  have hsel : SelectedIn s (.settleCycle 0) := by simp [SelectedIn, hr, hs, hp, hend]
  rw [step_of_selectedIn hl hsel, ← tick_countUp hlt]
  rfl

/-- At the end of a tick that is not the last the latch counter counts it without wrapping (R145, R15). -/
theorem step_settleTick (htick : s.tick_cnt + 1 = s.cfg.P_TICK_CYCLES) (hlt : s.latch_cnt + 1 < s.cfg.P_LATCH_TICKS) :
    step s = .next { s with tick_cnt := 0, latch_cnt := s.latch_cnt + 1 }.endCycle := by
  have hend : latchEnd s = false := by
    rw [Bool.eq_false_iff, ne_eq, latchEnd_iff]
    exact hlt.ne
  have hsel : SelectedIn s (.settleTick 0) := by simp [SelectedIn, hr, hs, hp, (tickEnd_iff s).2 htick, hend]
  rw [step_of_selectedIn hl hsel, ← latch_countUp hlt]
  rfl

/-- At the end of the last tick the block returns to SeekingMagic (R146). -/
theorem step_settleDone (htick : s.tick_cnt + 1 = s.cfg.P_TICK_CYCLES)
    (hlatch : s.latch_cnt + 1 = s.cfg.P_LATCH_TICKS) :
    step s = .next
      { s with tick_cnt := 0, latch_cnt := 0, cursor := 0, lphase := .drain, state := .sm }.endCycle := by
  have hsel : SelectedIn s (.settleDone 0) := by
    simp [SelectedIn, hr, hs, hp, (tickEnd_iff s).2 htick, (latchEnd_iff s).2 hlatch]
  exact step_of_selectedIn hl hsel

end

/-! ### Cycles counted one after another -/

/-- Division with remainder of the next number: a new quotient at the end of a period, a new remainder before it. -/
theorem add_one_div_mod {d : Nat} (hd : 0 < d) (n : Nat) :
    (n % d + 1 = d ∧ (n + 1) / d = n / d + 1 ∧ (n + 1) % d = 0) ∨
      (n % d + 1 < d ∧ (n + 1) / d = n / d ∧ (n + 1) % d = n % d + 1) := by
  have hn := Nat.mod_add_div n d
  obtain hend | hlt := (Nat.succ_le_of_lt (Nat.mod_lt n hd)).eq_or_lt
  · refine .inl ⟨hend, (Nat.div_mod_unique hd).2 ⟨?_, hd⟩⟩
    rw [Nat.mul_succ]
    omega
  · exact .inr ⟨hlt, (Nat.div_mod_unique hd).2 ⟨by omega, hlt⟩⟩

/-- The state `n` clock edges after the start of a settle, each of the cycles counted. -/
def State.settleFor (s : State) (n : Nat) : State :=
  { s.later n with tick_cnt := n % s.cfg.P_TICK_CYCLES, latch_cnt := n / s.cfg.P_TICK_CYCLES }

theorem State.port_settleFor (s : State) (n : Nat) : (s.settleFor n).port = s.portAt n :=
  (State.port_congr rfl rfl).trans (s.port_later n)

/-- A settle starts with both counters at 0. -/
theorem State.settleFor_zero {s : State} (ht : s.tick_cnt = 0) (hc : s.latch_cnt = 0) : s.settleFor 0 = s := by
  rw [State.settleFor, Nat.zero_mod, Nat.zero_div]
  cases s
  cases ht
  cases hc
  rfl

section
variable {s : State} {n : Nat} (hl : s.cfg.legal = true) (hs : s.state = .la) (hp : s.lphase = .settle)
  (hr : (s.portAt n).rst = false)
include hl hs hp hr

/-- Every cycle of the settle but its last is counted, as a cycle of its tick or as the tick's end. -/
theorem step_settleFor (hn : n + 1 < s.cfg.P_LATCH_TICKS * s.cfg.P_TICK_CYCLES) :
    step (s.settleFor n) = .next (s.settleFor (n + 1)) := by
  obtain ⟨-, -, hcycles⟩ := s.cfg.legal_iff.1 hl
  rw [← State.port_settleFor] at hr
  have hnext : s.settleFor (n + 1) = { s.settleFor n with
      tick_cnt := (n + 1) % s.cfg.P_TICK_CYCLES, latch_cnt := (n + 1) / s.cfg.P_TICK_CYCLES }.endCycle := by
    simp only [State.settleFor, State.later, State.endCycle, List.tail_drop, Nat.add_assoc]
  have hlatch : (n + 1) / s.cfg.P_TICK_CYCLES < s.cfg.P_LATCH_TICKS := Nat.div_lt_of_lt_mul (Nat.mul_comm _ _ ▸ hn)
  obtain ⟨hend, hdiv, hmod⟩ | ⟨hlt, hdiv, hmod⟩ := add_one_div_mod hcycles n
  · rw [hnext, hdiv, hmod]
    exact step_settleTick hl hs hp hr hend (hdiv ▸ hlatch)
  · rw [hnext, hdiv, hmod]
    exact step_settleCycle hl hs hp hr hlt

/-- The last cycle of the settle is the last of the last tick. -/
theorem step_settleFor_last (hn : n + 1 = s.cfg.P_LATCH_TICKS * s.cfg.P_TICK_CYCLES) :
    ∃ t, step (s.settleFor n) = .next t ∧ t.state = .sm ∧ t.accepted = s.accepted ∧ t.emitted = s.emitted := by
  obtain ⟨-, -, hcycles⟩ := s.cfg.legal_iff.1 hl
  rw [← State.port_settleFor] at hr
  have hmod0 : (n + 1) % s.cfg.P_TICK_CYCLES = 0 := hn ▸ Nat.mul_mod_left _ _
  have hticks : (n + 1) / s.cfg.P_TICK_CYCLES = s.cfg.P_LATCH_TICKS := hn ▸ Nat.mul_div_cancel _ hcycles
  obtain ⟨hend, hdiv, -⟩ | ⟨-, -, hmod⟩ := add_one_div_mod hcycles n
  · exact ⟨_, step_settleDone hl hs hp hr hend (hdiv.symm.trans hticks), rfl, rfl, rfl⟩
  · exact absurd (hmod.symm.trans hmod0) (Nat.succ_ne_zero _)

end

/-- The cycles of a settle are counted up to its last one. -/
theorem run_settleFor {s : State} {n : Nat} (hl : s.cfg.legal = true) (hs : s.state = .la) (hp : s.lphase = .settle)
    (ht : s.tick_cnt = 0) (hc : s.latch_cnt = 0) (hn : n < s.cfg.P_LATCH_TICKS * s.cfg.P_TICK_CYCLES)
    (hr : ∀ k, k < n → (s.portAt k).rst = false) : Sys2Proof.core.run n s = .next (s.settleFor n) := by
  induction n with
  | zero => rw [State.settleFor_zero ht hc]; rfl
  | succ n ih =>
    have hrun := ih (by omega) fun k hk => hr k (by omega)
    exact (run_add hrun 1).trans (run_succ (step_settleFor hl hs hp (hr n (by omega)) hn) 0)

/-- Settles O51: the cycles before the last are counted, and the last one ends the settle. -/
theorem settleLastsExactlyItsTicks : Obligations.SettleLastsExactlyItsTicks := by
  intro s hI hs hp ht hc hr
  have hrun (k : Nat) (hk : k < s.cfg.P_LATCH_TICKS * s.cfg.P_TICK_CYCLES) :
      Sys2Proof.core.run k s = .next (s.settleFor k) :=
    run_settleFor hI.legal hs hp ht hc hk fun j hj => hr j (hj.trans hk)
  refine ⟨fun k hk => ⟨s.settleFor k, hrun k hk, hs, hp⟩, ?done⟩
  case done =>
    obtain ⟨-, hticks, hcycles⟩ := s.cfg.legal_iff.1 hI.legal
    obtain ⟨n, hn⟩ := Nat.exists_eq_add_one_of_ne_zero (Nat.mul_pos hticks hcycles).ne'
    obtain ⟨t, hstep, ht⟩ := step_settleFor_last hI.legal hs hp (hr n (by omega)) hn.symm
    rw [hn]
    exact ⟨t, (run_add (hrun n (by omega)) 1).trans (run_succ hstep 0), ht⟩

end Sys2Proof.Machine
end

section
/-!
PROOF. With out_ready held at 1 the drain takes one cycle for each byte (spec/43_latch.md R142, R143, R149;
spec/70_reset_and_hazards.md R202).
-/
namespace Sys2Proof.Machine

/-! ### What a run keeps -/

/-- A run that has a first step starts with one that answers a next state. -/
theorem run_succ_next {s t : State} {n : Nat} (h : Sys2Proof.core.run (n + 1) s = .next t) :
    ∃ u, step s = .next u ∧ Sys2Proof.core.run n u = .next t := by
  cases hstep : step s with
  | next u => exact ⟨u, rfl, (run_succ hstep n).symm.trans h⟩
  | fault | refused =>
    have hcore : Sys2Proof.core.step s = _ := hstep
    simp [Host.Core.run, hcore] at h

/-- The port levels move up by the cycles that a run takes. -/
theorem run_portAt {s t : State} {n : Nat} (h : Sys2Proof.core.run n s = .next t) (k : Nat) :
    t.portAt k = s.portAt (n + k) := by
  induction n generalizing s with
  | zero =>
    cases h
    rw [Nat.zero_add]
  | succ n ih =>
    obtain ⟨u, hstep, hrun⟩ := run_succ_next h
    rw [ih hrun, step_portAt hstep, Nat.add_right_comm]

theorem run_port {s t : State} {n : Nat} (h : Sys2Proof.core.run n s = .next t) : t.port = s.portAt n :=
  run_portAt h 0

/-- A run keeps the invariants. -/
theorem inv_of_run {s t : State} {n : Nat} (hI : Inv s) (h : Sys2Proof.core.run n s = .next t) : Inv t := by
  obtain ⟨u, hrun, hu⟩ := run_of_inv hI n
  exact Host.Outcome.next.inj (hrun.symm.trans h) ▸ hu

/-! ### One cycle of the drain with a ready sink -/

section
variable {s : State} (hI : Inv s) (hs : s.state = .la) (hp : s.lphase = .drain) (hr : s.port.rst = false)
  (ho : s.port.outReady = true)
include hI hs hp hr ho

/-- A byte that is not the last is emitted and the drain goes on (R142). -/
theorem step_emitNext (hd : drainLast s = false) : step s = .next s.emitNext.endCycle := by
  have hlt : s.didx.toNat < s.cfg.P_C := (hI.inv7.1 ⟨hs, hp⟩).trans_le (Nat.min_le_right _ _)
  rw [step_of_selectedIn (i := .drainEmit 0) hI.legal (by simp [SelectedIn, hr, hs, hp, ho, hd]), exec_drainEmit hlt]
  rfl

/-- The last byte is emitted and the settle starts (R143). -/
theorem step_emitLast (hd : drainLast s = true) : step s = .next s.emitLast.endCycle := by
  have hlt : s.didx.toNat < s.cfg.P_C := (hI.inv7.1 ⟨hs, hp⟩).trans_le (Nat.min_le_right _ _)
  rw [step_of_selectedIn (i := .drainLast 0) hI.legal (by simp [SelectedIn, hr, hs, hp, ho, hd]), exec_drainLast hlt]
  rfl

end

/-! ### The cycles of the drain -/

/-- `n` cycles from `s` lead to `t`, which is in the drain of the same payload with the drain index at `n`. -/
structure DrainedTo (s : State) (n : Nat) (t : State) : Prop where
  run : Sys2Proof.core.run n s = .next t
  state : t.state = .la
  lphase : t.lphase = .drain
  didx : t.didx.toNat = n
  dlen : t.dlen = s.dlen
  accepted : t.accepted = s.accepted
  payloadByte : t.payloadByte = s.payloadByte

theorem DrainedTo.drainLast_iff {s t : State} {n : Nat} (h : DrainedTo s n t) :
    drainLast t = true ↔ n + 1 = s.dlen := by
  rw [drainLast, h.didx, h.dlen, beq_iff_eq]

/-- With a ready sink every cycle before the drain's last emits a byte and takes the drain index one up. -/
theorem exists_drainedTo {s : State} {n : Nat} (hI : Inv s) (hs : s.state = .la) (hp : s.lphase = .drain)
    (hd : s.didx = 0) (hn : n < s.dlen)
    (hq : ∀ k, k < n → (s.portAt k).rst = false ∧ (s.portAt k).outReady = true) : ∃ t, DrainedTo s n t := by
  induction n with
  | zero => exact ⟨s, rfl, hs, hp, by simp [hd], rfl, rfl, rfl⟩
  | succ n ih =>
    obtain ⟨t, ht⟩ := ih (by omega) fun k hk => hq k (by omega)
    obtain ⟨hr, ho⟩ := hq n (by omega)
    rw [← run_port ht.run] at hr ho
    have hlast : drainLast t = false := by
      rw [Bool.eq_false_iff, ne_eq, ht.drainLast_iff]
      omega
    have hIt := inv_of_run hI ht.run
    have hstep := step_emitNext hIt ht.state ht.lphase hr ho hlast
    have hdidx : (t.didx + 1).toNat = t.didx.toNat + 1 :=
      len_toNat_add_one ((hIt.inv7.1 ⟨ht.state, ht.lphase⟩).trans_le (Nat.min_le_left _ _))
    exact ⟨t.emitNext.endCycle, (run_add ht.run 1).trans (run_succ hstep 0), ht.state, ht.lphase,
      hdidx.trans (by rw [ht.didx]), ht.dlen, ht.accepted, ht.payloadByte⟩

/-- Settles O52: the bytes before the last take a cycle each, and the step from the last one to the settle is O53's,
which has emitted the payload. -/
theorem drainEmitsTheBufferInDlenCycles : Obligations.DrainEmitsTheBufferInDlenCycles := by
  intro s hI hs hp hd hq
  have hdrain (k : Nat) (hk : k < s.dlen) : ∃ t, DrainedTo s k t :=
    exists_drainedTo hI hs hp hd hk fun j hj => hq j (hj.trans hk)
  refine ⟨fun k hk => ?before, ?after⟩
  case before =>
    obtain ⟨t, ht⟩ := hdrain k hk
    exact ⟨t, ht.run, ht.state, ht.lphase⟩
  case after =>
    have hpos : 0 < s.dlen := Nat.zero_lt_of_lt (hI.inv7.1 ⟨hs, hp⟩)
    obtain ⟨n, hn⟩ := Nat.exists_eq_add_one_of_ne_zero hpos.ne'
    obtain ⟨t, ht⟩ := hdrain n (by omega)
    obtain ⟨hr, ho⟩ := hq n (by omega)
    rw [← run_port ht.run] at hr ho
    have hIt := inv_of_run hI ht.run
    have hstep := step_emitLast hIt ht.state ht.lphase hr ho (ht.drainLast_iff.2 hn.symm)
    obtain ⟨hbytes, -⟩ := transmittedBytesEqualReceivedBytes t _ hIt ht.lphase hstep rfl
    rw [ht.dlen, ht.payloadByte] at hbytes
    have hrun : Sys2Proof.core.run s.dlen s = .next t.emitLast.endCycle := by
      rw [hn]
      exact (run_add ht.run 1).trans (run_succ hstep 0)
    exact ⟨_, hrun, ht.state, rfl, rfl, rfl, ht.accepted, hbytes⟩

end Sys2Proof.Machine
end

section
/-!
PROOF. The exceptions (spec/60_exceptions.md): a block that waits with no timeout stays parked (R185), what a recovery
clears and keeps (R175, R179), and which operations raise an error class (R170, R178).
-/
namespace Sys2Proof.Machine

/-! ### Waiting without a timeout -/

/-- A run whose cycles each take the edge alone leaves every register, the PixelBuffer and the records as they were. -/
theorem run_later {s : State} {n : Nat} (h : ∀ k, k < n → step (s.later k) = .next (s.later k).endCycle) :
    Sys2Proof.core.run n s = .next (s.later n) := by
  induction n with
  | zero => rfl
  | succ n ih =>
    rw [run_add (ih fun k hk => h k (by omega)) 1, run_succ (h n (by omega)), State.endCycle_later]
    rfl

/-- A cycle of SeekingMagic without a byte only takes the edge (R100). -/
theorem step_seekIdle {s : State} (hl : s.cfg.legal = true) (hs : s.state = .sm) (hr : s.port.rst = false)
    (hv : s.port.inValid = false) : step s = .next s.endCycle :=
  step_of_selectedIn (i := .seekIdle 0) hl (by simp [SelectedIn, hr, hs, hv])

/-- Without a timeout a cycle of ReadingHeader or ReadingPayload without a byte only takes the edge (R110, R130). -/
theorem step_idle_of_no_timeout {s : State} (hl : s.cfg.legal = true) (hs : s.state = .rh ∨ s.state = .rp)
    (hr : s.port.rst = false) (hv : s.port.inValid = false) (hT : s.cfg.P_IDLE_TIMEOUT = 0) :
    step s = .next s.endCycle := by
  have hend : idleEnd s = false := by simp [idleEnd, hT]
  have hcount : s.countIdle = s := if_neg (not_not_intro hT)
  rw [step_idle hl hs hr hv hend, hcount]

/-- Settles O58: in each of the waiting blocks every one of the cycles takes the edge alone. -/
theorem waitingBlocksStayParked : Obligations.WaitingBlocksStayParked := by
  intro s n hl hr hwait
  refine ⟨s.later n, run_later fun k hk => ?_, rfl, rfl, rfl⟩
  have hrst : (s.later k).port.rst = false := by rw [State.port_later, hr k hk]
  obtain ⟨hblock, hv⟩ | ⟨hs, hp, ho⟩ := hwait
  · have hnone : (s.later k).port.inValid = false := by rw [State.port_later, hv k hk]
    obtain hs | ⟨hs, hT⟩ := hblock
    · exact step_seekIdle hl hs hrst hnone
    · exact step_idle_of_no_timeout hl hs hrst hnone hT
  · have hbusy : (s.later k).port.outReady = false := by rw [State.port_later, ho k hk]
    exact step_drainWait hl ((outValid_iff _).2 ⟨hrst, hs, hp⟩) hbusy

/-! ### Recovery -/

/-- Settles O44: a recovery clears the registers that its rule writes, and the window, and in ReadingHeader the cursor,
are at rest before it (INV2, INV4). -/
theorem recoveryIsPreciseAndLeavesAnEmptyWindow : Obligations.RecoveryIsPreciseAndLeavesAnEmptyWindow := by
  rintro s i hI hd ⟨u, rfl | rfl | rfl | rfl⟩
  all_goals
    obtain ⟨-, hs, -⟩ := selectedIn_of_decodeSel hd
    obtain ⟨hcount, hwindow⟩ := hI.inv2 (by simp [hs])
  case inr.inr.inr => exact ⟨_, rfl, rfl, rfl, rfl, rfl, hcount, hwindow, rfl, rfl, rfl, rfl, rfl⟩
  all_goals
    have hcursor : s.cursor = 0 := hI.inv4 (.inr hs)
    exact ⟨_, rfl, rfl, rfl, rfl, hcursor, hcount, hwindow, rfl, rfl, rfl, rfl, rfl⟩

/-! ### The error classes -/

/-- Settles O45: operation by operation, the record gains the class that the rule raises; counting an idle cycle, storing
a payload byte and reading the buffer raise none. -/
theorem errorClassesAreRaisedByTheirOperationsOnly : Obligations.ErrorClassesAreRaisedByTheirOperationsOnly := by
  refine ⟨fun i s t h => ?_, rfl, rfl, rfl, rfl⟩
  cases i with
  | hdrWait | payWait =>
    cases h
    exact s.countIdle_raised
  | payStore | payLast =>
    cases h
    exact s.accept.storePayload_raised
  | drainEmit =>
    obtain ⟨-, rfl⟩ := drainEmit_next h
    rfl
  | drainLast =>
    obtain ⟨-, rfl⟩ := drainLast_next h
    rfl
  | _ =>
    cases h
    rfl

end Sys2Proof.Machine
end

section
/-!
PROOF. RESET (spec/70_reset_and_hazards.md R190, R192) and the builds that have no step (R195).
-/
namespace Sys2Proof.Machine

/-! ### RESET -/

/-- Settles O10: the meaning as one update, the row of rst, and the handshakes of an operation that has none. -/
theorem resetWritesEveryRegister : Obligations.ResetWritesEveryRegister := by
  intro s
  refine ⟨fun _ => rfl, exists_decodeSel_iff_selectedIn s (.reset 0), fun hr => ?handshakes⟩
  case handshakes =>
    have hsel : SelectedIn s (.reset 0) := hr
    exact ⟨accIn_of_selectedIn hsel, accOut_of_selectedIn hsel⟩

/-- What a cycle with rst leaves: the registers of s_0, and the PixelBuffer and the records as they were (R190, R53). -/
def State.afterReset (s : State) : State :=
  { State.boot s.cfg s.feed.tail with
    buf := s.buf, cycle := s.cycle + 1, accepted := s.accepted, emitted := s.emitted, raised := s.raised }

theorem step_reset {s : State} (hl : s.cfg.legal = true) (hr : s.port.rst = true) : step s = .next s.afterReset :=
  step_of_selectedIn (i := .reset 0) hl hr

/-- Settles O11: the second RESET writes what the first one has written. -/
theorem oneResetEdgeIsEnough : Obligations.OneResetEdgeIsEnough := by
  intro s hl hr
  refine ⟨s.afterReset, step_reset hl hr, rfl, fun hr' => ?again⟩
  case again => exact ⟨_, step_reset hl hr', rfl⟩

/-! ### Builds that have no step -/

/-- A step of a legal build is never refused: it performs an operation, and every operation has a meaning. -/
theorem step_ne_refused {s : State} (hl : s.cfg.legal = true) (r : Refusal) : step s ≠ .refused r := by
  rw [step_legal hl]
  cases hexec : exec ((rowFor s).make 0) s with
  | next | fault => nofun
  | refused r' => exact absurd hexec (exec_ne_refused _ s r')

/-- Settles O8: a legal build is not refused, and any other one is. -/
theorem illegalBuildIsRefused : Obligations.IllegalBuildIsRefused := by
  intro s
  rw [← and_assoc, ← s.cfg.legal_iff, Bool.not_eq_true]
  constructor
  · exact fun h => Bool.eq_false_iff.2 fun hl => step_ne_refused hl _ h
  · exact step_illegal

end Sys2Proof.Machine
end

section
/-!
PROOF. A frame at full rate from its first byte to the end of its settle (spec/70_reset_and_hazards.md R202, R203;
spec/30_encoding.md R70): three cycles of marker, three of header, one for each payload byte, one for each byte emitted,
and the settle.
-/
namespace Sys2Proof.Machine

/-! ### Runs outside SeekingMagic -/

/-- `n` cycles lead from `s` to `t`, and before each of them the block is not in SM. -/
structure OutsideSeeking (s : State) (n : Nat) (t : State) : Prop where
  run : Sys2Proof.core.run n s = .next t
  before : ∀ k, k < n → ∃ u : State, Sys2Proof.core.run k s = .next u ∧ u.state ≠ .sm

theorem outsideSeeking_zero (s : State) : OutsideSeeking s 0 s := ⟨rfl, fun _ hk => absurd hk (Nat.not_lt_zero _)⟩

theorem OutsideSeeking.trans {s t u : State} {m n : Nat} (h : OutsideSeeking s m t) (h' : OutsideSeeking t n u) :
    OutsideSeeking s (m + n) u where
  run := (run_add h.run n).trans h'.run
  before k hk := by
    obtain hlt | hle := lt_or_ge k m
    · exact h.before k hlt
    · obtain ⟨j, rfl⟩ := Nat.exists_eq_add_of_le hle
      rw [run_add h.run j]
      exact h'.before j (by omega)

theorem OutsideSeeking.step {s t u : State} {n : Nat} (h : OutsideSeeking s n t) (hs : t.state ≠ .sm)
    (hstep : step t = .next u) : OutsideSeeking s (n + 1) u :=
  h.trans ⟨run_succ hstep 0, fun k hk => ⟨t, by rw [Nat.lt_one_iff.1 hk]; rfl, hs⟩⟩

/-- The last cycle of such a run leaves the window empty (R105). -/
theorem OutsideSeeking.window_empty {s t : State} {n : Nat} (hI : Inv s) (h : OutsideSeeking s n t) (hn : 0 < n) :
    t.mw_cnt = 0 := by
  obtain ⟨m, rfl⟩ := Nat.exists_eq_add_one_of_ne_zero hn.ne'
  obtain ⟨u, hu, hne⟩ := h.before m m.lt_add_one
  obtain ⟨v, hstep, hv⟩ := run_succ_next ((run_add hu 1).symm.trans h.run)
  obtain rfl : v = t := Host.Outcome.next.inj hv
  obtain ⟨hwin, -⟩ := windowIsEmptyOnEveryReturnToSeeking u
  exact (hwin (inv_of_run hI hu) hne v hstep).1

/-- No cycle of a run writes the build. -/
theorem run_cfg {s t : State} {n : Nat} (h : Sys2Proof.core.run n s = .next t) : t.cfg = s.cfg := by
  induction n generalizing s with
  | zero => cases h; rfl
  | succ n ih =>
    obtain ⟨u, hstep, hrun⟩ := run_succ_next h
    obtain ⟨-, -, hcfg⟩ := step_frame hstep
    exact (ih hrun).trans hcfg

/-! ### Bytes at full rate -/

/-- The ports offer a byte in each of the next `n` cycles, and rst is 0 in them. -/
def OffersEach (s : State) (n : Nat) : Prop := ∀ k, k < n → (s.portAt k).rst = false ∧ (s.portAt k).inValid = true

/-- The offers that a run has left. -/
theorem OffersEach.after_run {s t : State} {m n : Nat} (h : OffersEach s (m + n))
    (hrun : Sys2Proof.core.run m s = .next t) : OffersEach t n := fun k hk => by
  rw [run_portAt hrun]
  exact h (m + k) (by omega)

theorem OffersEach.after_step {s t : State} {n : Nat} (h : OffersEach s (n + 1)) (hstep : step s = .next t) :
    OffersEach t n :=
  OffersEach.after_run (Nat.add_comm n 1 ▸ h) (run_succ hstep 0)

theorem OffersEach.head {s : State} {n : Nat} (h : OffersEach s (n + 1)) :
    s.port.rst = false ∧ s.port.inValid = true := h 0 n.succ_pos

/-! ### The marker -/

section
variable {s : State} (hl : s.cfg.legal = true) (hs : s.state = .sm) (hr : s.port.rst = false)
  (hv : s.port.inValid = true)
include hl hs hr hv

/-- A byte that does not complete the marker is shifted into the window (R101). -/
theorem step_seekShift (hm : mmatch s = false) :
    ∃ t, step s = .next t ∧ t.state = .sm ∧ t.mw_cnt = countByte s.mw_cnt ∧ slot0 t.mw = s.port.inData ∧
      slot1 t.mw = slot0 s.mw := by
  have hsel : SelectedIn s (.seekShift 0) := by simp [SelectedIn, hr, hs, hv, hm]
  exact ⟨_, step_of_selectedIn hl hsel, hs, rfl, slot0_shiftWindow _ _, slot1_shiftWindow _ _⟩

/-- The byte that completes the marker starts a header (R102). -/
theorem step_seekMatch (hm : mmatch s = true) : ∃ t, step s = .next t ∧ t.state = .rh ∧ t.hdr_cnt = 0 := by
  have hsel : SelectedIn s (.seekMatch 0) := by simp [SelectedIn, hr, hs, hv, hm]
  exact ⟨_, step_of_selectedIn hl hsel, rfl, rfl⟩

end

/-- From an empty window the marker at full rate takes the block to the start of a header in three cycles (R103). -/
theorem run_marker {s : State} (hl : s.cfg.legal = true) (hs : s.state = .sm) (hw : s.mw_cnt = 0)
    (ho : OffersEach s 3) (h0 : (s.portAt 0).inData = s.cfg.P_M0) (h1 : (s.portAt 1).inData = s.cfg.P_M1)
    (h2 : (s.portAt 2).inData = s.cfg.P_M2) :
    ∃ t : State, Sys2Proof.core.run 3 s = .next t ∧ t.state = .rh ∧ t.hdr_cnt = 0 := by
  obtain ⟨a, hstep0, has, hacnt, ha0, -⟩ :=
    step_seekShift hl hs ho.head.1 ho.head.2 (mmatch_eq_false_of_lt (by simp [hw]))
  obtain ⟨-, -, hacfg⟩ := step_frame hstep0
  have ho1 := ho.after_step hstep0
  obtain ⟨b, hstep1, hbs, hbcnt, hb0, hb1⟩ := step_seekShift (hacfg ▸ hl) has ho1.head.1 ho1.head.2
    (mmatch_eq_false_of_lt (by simp [hacnt, hw, countByte_toNat]))
  obtain ⟨-, -, hbcfg⟩ := step_frame hstep1
  have ho2 := ho1.after_step hstep1
  replace hbcfg : b.cfg = s.cfg := hbcfg.trans hacfg
  have hm : mmatch b = true := by
    have hport : b.port = s.portAt 2 := (step_portAt hstep1 0).trans (step_portAt hstep0 1)
    rw [mmatch_iff, hbcfg, hport]
    refine ⟨by simp [hbcnt, hacnt, hw, countByte_toNat], (hb1.trans ha0).trans h0, ?_, h2⟩
    exact hb0.trans ((congrArg PortIn.inData (step_portAt hstep0 0)).trans h1)
  obtain ⟨t, hstep2, ht⟩ := step_seekMatch (hbcfg ▸ hl) hbs ho2.head.1 ho2.head.2 hm
  refine ⟨t, ?run, ht⟩
  case run => rw [run_succ hstep0, run_succ hstep1, run_succ hstep2]; rfl

/-! ### The header -/

section
variable {s : State} (hl : s.cfg.legal = true) (hs : s.state = .rh) (hr : s.port.rst = false)
  (hv : s.port.inValid = true)
include hl hs hr hv

/-- The first byte of a header is hiByte (R111). -/
theorem step_hdrHi (hc : s.hdr_cnt = 0) :
    ∃ t, step s = .next t ∧ t.state = .rh ∧ t.hdr_cnt = 1 ∧ t.hdr_hi = s.port.inData := by
  have hsel : SelectedIn s (.hdrHi 0) := by simp [SelectedIn, hr, hs, hv, hc]
  exact ⟨_, step_of_selectedIn hl hsel, hs, rfl, rfl⟩

/-- The second byte of a header is loByte (R112). -/
theorem step_hdrLo (hc : s.hdr_cnt = 1) :
    ∃ t, step s = .next t ∧ t.state = .rh ∧ t.hdr_cnt = 2 ∧ t.hdr_hi = s.hdr_hi ∧ t.hdr_lo = s.port.inData := by
  have hsel : SelectedIn s (.hdrLo 0) := by simp [SelectedIn, hr, hs, hv, hc]
  exact ⟨_, step_of_selectedIn hl hsel, hs, rfl, rfl, rfl⟩

/-- The valid checksum of a header whose length the policy admits starts its payload (R113). -/
theorem step_hdrChkOk (hc : s.hdr_cnt = 2) (hk : chkOk s = true) (ho : rejOver s = false) :
    ∃ t, step s = .next t ∧ t.state = .rp ∧ t.cursor = 0 ∧ t.plen = payloadLength s.hdr_hi s.hdr_lo := by
  have hsel : SelectedIn s (.hdrChkOk 0) := by simp [SelectedIn, hr, hs, hv, hc, hk, ho]
  exact ⟨_, step_of_selectedIn hl hsel, rfl, rfl, rfl⟩

end

/-- A valid header at full rate takes the block to the start of its payload in three cycles. -/
theorem run_header {s : State} {hi lo : Byte} (hl : s.cfg.legal = true) (hs : s.state = .rh) (hc : s.hdr_cnt = 0)
    (ho : OffersEach s 3) (h0 : (s.portAt 0).inData = hi) (h1 : (s.portAt 1).inData = lo)
    (h2 : (s.portAt 2).inData = checksum s.cfg hi lo)
    (hfit : s.cfg.P_OVERSIZE = .reject → (payloadLength hi lo).toNat ≤ s.cfg.P_C) :
    ∃ t, OutsideSeeking s 3 t ∧ t.state = .rp ∧ t.cursor = 0 ∧ t.plen = payloadLength hi lo := by
  obtain ⟨a, hstep0, has, hac, hahi⟩ := step_hdrHi hl hs ho.head.1 ho.head.2 hc
  obtain ⟨-, -, hacfg⟩ := step_frame hstep0
  have ho1 := ho.after_step hstep0
  obtain ⟨b, hstep1, hbs, hbc, hbhi, hblo⟩ := step_hdrLo (hacfg ▸ hl) has ho1.head.1 ho1.head.2 hac
  obtain ⟨-, -, hbcfg⟩ := step_frame hstep1
  have ho2 := ho1.after_step hstep1
  replace hbhi : b.hdr_hi = hi := (hbhi.trans hahi).trans h0
  replace hblo : b.hdr_lo = lo := hblo.trans ((congrArg PortIn.inData (step_portAt hstep0 0)).trans h1)
  replace hbcfg : b.cfg = s.cfg := hbcfg.trans hacfg
  have hk : chkOk b = true := by
    have hport : b.port = s.portAt 2 := (step_portAt hstep1 0).trans (step_portAt hstep0 1)
    rw [chkOk, hport, hbhi, hblo, hbcfg, h2, beq_self_eq_true]
  have hadm : rejOver b = false := by
    rw [Bool.eq_false_iff, ne_eq, rejOver_iff, hbhi, hblo, hbcfg, ← payloadLength_toNat]
    exact fun ⟨hpol, hover⟩ => absurd (hfit hpol) hover.not_ge
  obtain ⟨t, hstep2, hts, htc, htl⟩ := step_hdrChkOk (hbcfg ▸ hl) hbs ho2.head.1 ho2.head.2 hbc hk hadm
  rw [hbhi, hblo] at htl
  have hout := (((outsideSeeking_zero s).step (by simp [hs]) hstep0).step (by simp [has]) hstep1).step
    (by simp [hbs]) hstep2
  exact ⟨t, hout, hts, htc, htl⟩

/-! ### The payload -/

/-- A payload byte is accepted into the current frame, and is its last or not (R132, R133). -/
theorem step_payload {s : State} (hl : s.cfg.legal = true) (hs : s.state = .rp) (hr : s.port.rst = false)
    (hv : s.port.inValid = true) :
    ∃ t, step s = .next t ∧ (t.state = .rp ∨ t.state = .la ∧ t.lphase = .drain ∧ t.didx = 0) ∧
      t.cursor = s.cursor + 1 ∧ t.plen = s.plen ∧ t.accepted = (s.cycle, s.port.inData) :: s.accepted := by
  cases hlast : payLast s with
  | false =>
    have hsel : SelectedIn s (.payStore 0) := by simp [SelectedIn, hr, hs, hv, hlast]
    exact ⟨_, step_of_selectedIn hl hsel, .inl (by simp [hs]), rfl, by simp, by simp⟩
  | true =>
    have hsel : SelectedIn s (.payLast 0) := by simp [SelectedIn, hr, hs, hv, hlast]
    exact ⟨_, step_of_selectedIn hl hsel, .inr ⟨rfl, rfl, rfl⟩, rfl, by simp, by simp⟩

/-- The payload byte just accepted is the newest of the frame, and those before it are as they were. -/
theorem payloadByte_accept {s t : State} (hcur : t.cursor.toNat = s.cursor.toNat + 1)
    (hacc : t.accepted = (s.cycle, s.port.inData) :: s.accepted) :
    t.payloadByte s.cursor.toNat = some s.port.inData ∧
      ∀ i, i < s.cursor.toNat → t.payloadByte i = s.payloadByte i := by
  simp only [State.payloadByte, hacc, hcur]
  refine ⟨by simp, fun i hi => ?_⟩
  rw [getElem?_cons_of_lt _ _ hi]

/-- `n` cycles outside SM lead from `s` to `t`, in which the payload so far is the bytes that the ports of `s` carry in
them. -/
structure ReceivedTo (s : State) (n : Nat) (t : State) : Prop where
  outside : OutsideSeeking s n t
  phase : t.state = .rp ∨ t.state = .la ∧ t.lphase = .drain ∧ t.didx = 0
  plen : t.plen = s.plen
  cursor : t.cursor.toNat = n
  payloadByte : ∀ i, i < n → t.payloadByte i = some (s.portAt i).inData

/-- Before the last payload byte the block is in RP, since in LA the cursor is the length (INV6). -/
theorem ReceivedTo.state_eq_rp {s t : State} {n : Nat} (hI : Inv s) (h : ReceivedTo s n t) (hn : n < s.plen.toNat) :
    t.state = .rp := by
  refine h.phase.resolve_right fun ⟨hs, _⟩ => ?_
  have hcur := (inv_of_run hI h.outside.run).inv6 hs
  rw [← h.plen, ← hcur, h.cursor] at hn
  exact hn.false

/-- After the last payload byte the drain starts, since in RP the cursor is below the length (INV5). -/
theorem ReceivedTo.drain_starts {s t : State} (hI : Inv s) (h : ReceivedTo s s.plen.toNat t) :
    t.state = .la ∧ t.lphase = .drain ∧ t.didx = 0 := by
  refine h.phase.resolve_left fun hs => ?_
  have hlt := (inv_of_run hI h.outside.run).inv5.1 hs
  rw [h.cursor, h.plen] at hlt
  exact hlt.false

/-- Each payload byte at full rate takes one cycle. -/
theorem exists_receivedTo {s : State} {n : Nat} (hI : Inv s) (hs : s.state = .rp) (hc : s.cursor = 0)
    (hn : n ≤ s.plen.toNat) (ho : OffersEach s n) : ∃ t, ReceivedTo s n t := by
  induction n with
  | zero => exact ⟨s, outsideSeeking_zero s, .inl hs, rfl, by simp [hc], nofun⟩
  | succ n ih =>
    obtain ⟨t, ht⟩ := ih (by omega) fun k hk => ho k (by omega)
    have hrun := ht.outside.run
    have hIt := inv_of_run hI hrun
    have htrp := ht.state_eq_rp hI hn
    obtain ⟨hr, hv⟩ := (ho.after_run hrun).head
    obtain ⟨u, hstep, hphase, hcur, hlen, hacc⟩ := step_payload hIt.legal htrp hr hv
    replace hcur : u.cursor.toNat = t.cursor.toNat + 1 := hcur ▸ len_toNat_add_one (hIt.inv5.1 htrp)
    obtain ⟨hnew, hold⟩ := payloadByte_accept hcur hacc
    rw [ht.cursor] at hcur hnew hold
    rw [run_port hrun] at hnew
    refine ⟨u, ht.outside.step (by simp [htrp]) hstep, hphase, hlen.trans ht.plen, hcur, fun i hi => ?bytes⟩
    case bytes =>
      obtain rfl | hlt := (Nat.lt_succ_iff.1 hi).eq_or_lt
      · exact hnew
      · rw [hold i hlt, ht.payloadByte i hlt]

/-! ### The drain and the settle -/

/-- With a ready sink Latching sends the payload and returns to SM after its drain and its settle (R147, R149). -/
theorem run_latch {s : State} {n : Nat} (hI : Inv s) (hs : s.state = .la) (hp : s.lphase = .drain) (hd : s.didx = 0)
    (hn : n = s.dlen + s.cfg.P_LATCH_TICKS * s.cfg.P_TICK_CYCLES) (hr : ∀ k, k < n → (s.portAt k).rst = false)
    (ho : ∀ k, k < s.dlen → (s.portAt k).outReady = true) :
    ∃ t, OutsideSeeking s n t ∧ t.state = .sm ∧ ∀ i, i < s.dlen → t.emittedByte s.dlen i = s.payloadByte i := by
  obtain ⟨hdrain, u, hrun, hus, hup, hut, huc, -, hbytes⟩ :=
    drainEmitsTheBufferInDlenCycles s hI hs hp hd fun k hk => ⟨hr k (by omega), ho k hk⟩
  have hIu := inv_of_run hI hrun
  rw [← run_cfg hrun] at hn
  obtain ⟨hsettle, t, hrun', hts, -, hem⟩ := settleLastsExactlyItsTicks u hIu hus hup hut huc fun k hk => by
    rw [run_portAt hrun]
    exact hr _ (by omega)
  have hout : OutsideSeeking s s.dlen u := ⟨hrun, fun k hk => by
    obtain ⟨v, hv, hvs, -⟩ := hdrain k hk
    exact ⟨v, hv, by simp [hvs]⟩⟩
  have hout' : OutsideSeeking u _ t := ⟨hrun', fun k hk => by
    obtain ⟨v, hv, hvs, -⟩ := hsettle k hk
    exact ⟨v, hv, by simp [hvs]⟩⟩
  refine ⟨t, hn ▸ hout.trans hout', hts, fun i hi => ?_⟩
  rw [State.emittedByte, hem]
  exact (hbytes i hi).2

/-! ### The frame -/

/-- Settles O60: after the marker the header, the payload and Latching follow one another outside SM. -/
theorem frameIsTransmittedInItsCycleCount : Obligations.FrameIsTransmittedInItsCycleCount := by
  intro s hi lo plen dlen n hI hs hw hplen hdlen hn hfit hr hv h0 h1 h2 h3 h4 h5 hout
  rw [← payloadLength_toNat] at hplen
  have ho : OffersEach s (3 + (3 + plen)) := fun k hk => ⟨hr k (by omega), hv k (by omega)⟩
  obtain ⟨a, hmarker, has, hac⟩ := run_marker hI.legal hs hw (fun k hk => ho k (by omega)) h0 h1 h2
  have hIa := inv_of_run hI hmarker
  have hacfg := run_cfg hmarker
  have hoa := ho.after_run hmarker
  obtain ⟨b, hheader, hbs, hbc, hbl⟩ := run_header (hi := hi) (lo := lo) hIa.legal has hac
    (fun k hk => hoa k (by omega)) (by rw [run_portAt hmarker, h3]) (by rw [run_portAt hmarker, h4])
    (by rw [run_portAt hmarker, h5, hacfg, checksum]) (by rwa [hacfg, ← hplen])
  have hrunb : Sys2Proof.core.run 6 s = .next b := (run_add hmarker 3).trans hheader.run
  have hIb := inv_of_run hI hrunb
  have hbplen : b.plen.toNat = plen := (congrArg BitVec.toNat hbl).trans hplen.symm
  obtain ⟨c, hc⟩ := exists_receivedTo hIb hbs hbc le_rfl (hbplen ▸ hoa.after_run hheader.run)
  obtain ⟨hcs, hcp, hcd⟩ := hc.drain_starts hIb
  have hrunc : Sys2Proof.core.run (6 + plen) s = .next c := (run_add hrunb plen).trans (hbplen ▸ hc.outside.run)
  have hccfg := run_cfg hrunc
  have hcdlen : c.dlen = dlen := by rw [State.dlen, hc.plen, hbplen, hccfg, hdlen]
  obtain ⟨t, hlatch, hts, hbytes⟩ := run_latch (n := dlen + s.cfg.P_LATCH_TICKS * s.cfg.P_TICK_CYCLES)
    (inv_of_run hI hrunc) hcs hcp hcd (by rw [hcdlen, hccfg])
    (fun k hk => by rw [run_portAt hrunc]; exact hr _ (by omega))
    (fun k hk => by rw [run_portAt hrunc]; exact hout _ (by omega) (by omega))
  have hframe := (hheader.trans hc.outside).trans hlatch
  obtain rfl : n = 3 + (3 + plen + (dlen + s.cfg.P_LATCH_TICKS * s.cfg.P_TICK_CYCLES)) := by omega
  rw [hbplen] at hframe
  refine ⟨⟨t, (run_add hmarker _).trans hframe.run, hts, hframe.window_empty hIa (by omega), fun i hi => ?bytes⟩,
    fun k hk hkn => ?outside⟩
  case bytes =>
    rw [hcdlen] at hbytes
    rw [hbytes i hi, hc.payloadByte i (by omega), run_portAt hrunb]
  case outside =>
    obtain ⟨j, rfl⟩ := Nat.exists_eq_add_of_le hk
    rw [run_add hmarker j]
    exact hframe.before j (by omega)

end Sys2Proof.Machine
end
